-- ==== Sys2Proof/Word.lean ====
section
/-! DEFINITION. The plain words of the BQ-212 model: bytes, addresses, the numbers of lanes, windows and contexts. -/

namespace Sys2Proof

/-- One byte. -/
abbrev Byte := BitVec 8

/-- A 40-bit address of the 1 TiB space (00_scope.md, Conventions, Addresses). -/
abbrev Addr := BitVec 40

abbrev Word16 := BitVec 16

abbrev Word32 := BitVec 32

abbrev Word64 := BitVec 64

/-- A lane of the upstream link, 0 to 15 (R114, R115). -/
abbrev LaneId := Fin 16

/-- A window, 0 to 15 (R20). -/
abbrev WinId := Fin 16

/-- A transfer context, 0 to 255 (R40). -/
abbrev CtxId := Fin 256

/-- Every lane, in increasing number. -/
def allLanes : List LaneId := List.finRange 16

/-- Every window, in increasing number. -/
def allWins : List WinId := List.finRange 16

/-- Every context, in increasing number. -/
def allCtxs : List CtxId := List.finRange 256

end Sys2Proof
end

