-- ==== Sys2Proof/Syntax.lean ====
section
/-! DEFINITION. The commands of the BQ-212: one constructor of `Instr` for each row of spec/opcode_table.json. -/

namespace Sys2Proof

/-- The kind of a request (R114). -/
inductive ReqKind where
  | read
  | write
  deriving DecidableEq, Repr

/-- A request of the upstream link (R114). A READ carries no data. -/
structure Request where
  kind  : ReqKind
  addr  : Addr
  count : Nat
  lane  : LaneId
  ident : Nat
  data  : List Byte
  deriving DecidableEq, Repr

/-- A response of the memory link: OKAY, with the bytes of a READ, or ERROR (R177). -/
inductive MemResp where
  | okay (data : List Byte)
  | error
  deriving DecidableEq, Repr

/-- The steps of the part, one constructor for each row of the table. A response names the request it answers by the
number MEMORY_ISSUE gave it on the memory link (log entry 4). -/
inductive Instr where
  /-- RST_N is taken low. -/
  | pinReset
  /-- RST_N is released with the BYPASS and CPB straps at these levels. -/
  | resetRelease (bypass : Bool) (cpb : BitVec 8)
  /-- A start-up load read is answered OKAY. -/
  | loadReadDone (id : Nat) (data : List Byte)
  /-- A start-up ring clear is answered OKAY. -/
  | loadClearDone (id : Nat)
  /-- A start-up load request is answered ERROR. -/
  | loadError (id : Nat)
  /-- A request is offered on the upstream link. -/
  | requestArrival (r : Request)
  /-- The lane's next request reaches the head, or the head is treated. -/
  | headEvent (lane : LaneId)
  /-- The Report Unit is handed a written consumer value. -/
  | consumerValueWritten
  /-- The Order Unit examines its expected slot. -/
  | orderExamination
  /-- The examination that takes SET-WINDOW. -/
  | setWindow
  /-- The examination that takes RELEASE. -/
  | release
  /-- The examination that takes OPEN. -/
  | openTransfer
  /-- The examination that takes CLOSE. -/
  | closeTransfer
  /-- The examination that takes RETIRE. -/
  | retire
  /-- The examination that takes CLEAR-ALL. -/
  | clearAll
  /-- The examination that takes RECHECK. -/
  | recheck
  /-- The examination that takes STEP. -/
  | stepSweep
  /-- The examination that takes STOP-SWEEP. -/
  | stopSweep
  /-- The examination that takes SNAPSHOT. -/
  | snapshot
  /-- The examination that takes SET-ENGINE. -/
  | setEngine
  /-- The examination that takes an order of an unlisted code. -/
  | unknownOrder
  /-- The ladder builder completes its ladder. -/
  | ladderComplete
  /-- The read of an ATTACHED slot is answered OKAY. -/
  | reconcileReadReturn (id : Nat) (data : List Byte)
  /-- The read of an ATTACHED slot is answered ERROR. -/
  | reconcileReadError (id : Nat)
  /-- The read of a DETACHED slot is answered. -/
  | detachedReadReturn (id : Nat) (resp : MemResp)
  /-- A forwarded request is answered by memory. -/
  | responseRelay (id : Nat) (resp : MemResp)
  /-- The memory link takes a request. -/
  | memoryIssue
  /-- A request whose owner gave it up is answered. -/
  | orphanResponse (id : Nat) (resp : MemResp)
  /-- A tick is delivered to its three owners. -/
  | tick
  /-- The aging, at a tick, of a context whose idle count ends. -/
  | idleCountEnd (ctx : CtxId)
  /-- The aging, at a tick, of a context whose guard count ends. -/
  | guardEnd (ctx : CtxId)
  /-- The aging, at a tick, of a held read whose hold count ends. -/
  | holdCountEnd (lane : LaneId)
  /-- The Time Base's event at a tick that finds pending settings. -/
  | settingsAdopt
  /-- The Time Base's event at a tick that ends the snapshot countdown. -/
  | snapshotCountdownEnd
  /-- A status block write is answered OKAY. -/
  | statusBlockWriteDone (id : Nat)
  /-- A result record write, or a producer word write, is answered OKAY. -/
  | recordWriteDone (id : Nat)
  /-- A record, producer word or status block write is answered ERROR. -/
  | engineWriteError (id : Nat)
  /-- The sweeper begins the visit of its current bay. -/
  | visitBegin
  /-- A recheck read is answered OKAY. -/
  | recheckReadDone (id : Nat) (data : List Byte)
  /-- A recheck read is answered ERROR. -/
  | recheckReadError (id : Nat)
  /-- The prescaler runs out: 100 REFCLK periods have passed. -/
  | microsecondStep
  deriving DecidableEq, Repr

end Sys2Proof
end

