-- ==== Sys2Proof/WellFormed.lean ====
section
/-! DEFINITION. What a command of the two links must be to be carried at all (R114). -/

namespace Sys2Proof

/-- A byte count is 1 to 256 (R114). -/
def Request.countOk (r : Request) : Bool := decide (1 ≤ r.count ∧ r.count ≤ 256)

/-- A WRITE carries as many data bytes as its byte count, and a READ none (R114). -/
def Request.dataOk (r : Request) : Bool :=
  match r.kind with
  | .read => r.data.isEmpty
  | .write => decide (r.data.length = r.count)

/-- A request that the upstream link can carry (R114: its byte count and lane number are carried within their ranges
by the format of the link). -/
def Request.wf (r : Request) : Bool := r.countOk && r.dataOk

/-- A response carries at most the 256 bytes of the largest request (R114). -/
def dataFits (d : List Byte) : Bool := decide (d.length ≤ 256)

def MemResp.wf : MemResp → Bool
  | .okay d => dataFits d
  | .error => true

/-- A command that the links of the part can carry. -/
def Instr.wf : Instr → Bool
  | .requestArrival r => r.wf
  | .loadReadDone _ d => dataFits d
  | .reconcileReadReturn _ d => dataFits d
  | .recheckReadDone _ d => dataFits d
  | .detachedReadReturn _ r => r.wf
  | .responseRelay _ r => r.wf
  | .orphanResponse _ r => r.wf
  | .pinReset => true
  | .resetRelease _ _ => true
  | .loadClearDone _ => true
  | .loadError _ => true
  | .headEvent _ => true
  | .consumerValueWritten => true
  | .orderExamination => true
  | .setWindow => true
  | .release => true
  | .openTransfer => true
  | .closeTransfer => true
  | .retire => true
  | .clearAll => true
  | .recheck => true
  | .stepSweep => true
  | .stopSweep => true
  | .snapshot => true
  | .setEngine => true
  | .unknownOrder => true
  | .ladderComplete => true
  | .reconcileReadError _ => true
  | .memoryIssue => true
  | .tick => true
  | .idleCountEnd _ => true
  | .guardEnd _ => true
  | .holdCountEnd _ => true
  | .settingsAdopt => true
  | .snapshotCountdownEnd => true
  | .statusBlockWriteDone _ => true
  | .recordWriteDone _ => true
  | .engineWriteError _ => true
  | .visitBegin => true
  | .recheckReadError _ => true
  | .microsecondStep => true

end Sys2Proof
end

