-- ==== Sys2Proof/Decode.lean ====
section
/-! DEFINITION. Commands spelled by the bits of spec/opcode_table.json. -/

namespace Sys2Proof

/-- The command that a word spells by the table's bits. No row of the table gives bits (98_reader.md counts 0 rows
with "fixed" and 0 with "fields"): the commands of the part are events of its links, its clock and its blocks, not
encoded words, so no word spells one. -/
def decodeTableWord (_nbits _w : Nat) : Option Instr := none

end Sys2Proof
end

