-- ==== Sys2Proof/Config.lean ====
section
/-! DEFINITION. The sizes the BQ-212 fixes, and the one choice its manual leaves open. -/

namespace Sys2Proof.Config

/-- A lane's backlog holds at most 8 requests (R115). -/
def backlogMax : Nat := 8

/-- The pending list holds at most 32 records (R169). -/
def pendingMax : Nat := 32

/-- The result ring has 256 slots (R171). -/
def ringSlots : Nat := 256

/-- The extent pool has 2048 records (R65). -/
def poolSize : Nat := 2048

/-- The control page is 16 KiB (R163). -/
def pageSize : Nat := 16384

/-- 32-bit counters saturate here (00_scope.md, Conventions, Counters). -/
def counterMax : Nat := 4294967295

/-- A tick of the prescaler: 100 REFCLK periods to the microsecond (R141). -/
def refclkPerMicrosecond : Nat := 100

/-- FREE VALUE (log entry 13). R26 treats every touched bay of a forwarded STRADDLE write "at the same event" and
does not say which bay's transfer is treated first, which decides the order of two TRANSFER-END groups. The n-th such
choice is this constant at n: true where the higher bay is treated first. It has no body, so nothing rests on it. -/
opaque straddleHighFirst : Nat → Bool

end Sys2Proof.Config
end

