-- ==== Sys2Proof/Machine/State.lean ====
section
/-! DEFINITION. Every piece of state the manual gives the BQ-212, as plain data, and the state after pin reset. -/

namespace Sys2Proof.Machine

/-- Why the machine stops with a fault. -/
inductive Fault where
  /-- Raised by a response command: an OKAY response whose data is not the byte count of the READ it answers (or is
  not empty, for a WRITE). The memory link carries no such response (R114, R177). Safe: the model stops where the
  hardware is never put. -/
  | responseLength
  deriving DecidableEq, Repr

/-- Why a command has no meaning. -/
inductive Refusal where
  /-- Raised by `exec`'s arms for a row that has no meaning yet. Safe. -/
  | notModelled (mnemonic : String)
  /-- Raised by REQUEST_ARRIVAL: the request is one the upstream link's format cannot carry (R114: a byte count of
  1 to 256, and a WRITE's data of that many bytes). Safe. -/
  | illFormedRequest
  deriving DecidableEq, Repr

/-! ### The engine as a whole (chapter 12) -/

/-- The engine states (section 12.2). RESET is the state while RST_N is low. -/
inductive EngineState where
  | reset
  | loading
  | running
  | halted
  | bypassed
  deriving DecidableEq, Repr

/-- How far the start-up load has come: the load responses still awaited in step 1 or step 2 (R180). -/
inductive LoadPhase where
  | idle
  | reading (left : Nat)
  | clearing (left : Nat)
  deriving DecidableEq, Repr

/-- The engine state, the sampled CPB straps, the two output pins and the start-up load. -/
structure Engine where
  state  : EngineState
  cpb    : BitVec 8
  attn   : Bool
  faultN : Bool
  load   : LoadPhase
  deriving DecidableEq, Repr

/-! ### Lane Front (chapter 7) -/

/-- Why a head is held (R115, R120). -/
inductive HoldReason where
  | priming
  | reconcile
  | conflict
  | fence
  deriving DecidableEq, Repr

/-- How a lane's head stands: it has reached the head and awaits its first head event, it is held, or a release has
ended its hold and it awaits its new head event (R115, R121). -/
inductive HeadStanding where
  | fresh
  | held (reason : HoldReason)
  | released
  deriving DecidableEq, Repr

/-- A lane's head. -/
structure Head where
  req      : Request
  standing : HeadStanding
  deriving DecidableEq, Repr

/-- One of the 16 lanes (R115). -/
structure Lane where
  head    : Option Head
  backlog : List Request
  deriving DecidableEq, Repr

def Lane.empty : Lane := { head := none, backlog := [] }

/-- The stall of the upstream link: the lane it names and its waiting request (R117). -/
structure Stall where
  lane    : LaneId
  waiting : Request
  deriving DecidableEq, Repr

/-- A response on the upstream link: OKAY with data, or ERROR (R114). -/
structure Response where
  lane  : LaneId
  ident : Nat
  resp  : MemResp
  deriving DecidableEq, Repr

/-- What the Lane Front keeps of a forwarded request until its response (R123). A tracked write names the context and
the transfer number of the transfer that took it. -/
structure FwdRecord where
  lane    : LaneId
  ident   : Nat
  kind    : ReqKind
  tracked : Option (CtxId × Word32)
  deriving DecidableEq, Repr

/-! ### Memory Port (section 12.1) -/

/-- The owner of a request on the memory link (R177). -/
inductive Owner where
  /-- a forwarded request of the Lane Front, with its forwarded record -/
  | forwarded (r : FwdRecord)
  /-- the reconcile read of a lane's slot -/
  | reconcile (lane : LaneId)
  /-- the write of a result record -/
  | record
  /-- the write of the producer word -/
  | producerWord
  /-- the write of a status block -/
  | statusBlock
  /-- a recheck read, at this payload offset -/
  | recheck (off : Nat)
  /-- the start-up load read at this page offset -/
  | loadRead (off : Nat)
  /-- a start-up ring clear -/
  | loadClear
  /-- a request whose owner gave it up -/
  | orphan
  deriving DecidableEq, Repr

/-- A request toward memory, with its owner. -/
structure MemReq where
  kind  : ReqKind
  addr  : Addr
  count : Nat
  data  : List Byte
  owner : Owner
  deriving DecidableEq, Repr

/-- A request issued and not yet answered, under the number it was issued with. -/
structure Outstanding where
  id  : Nat
  req : MemReq
  deriving DecidableEq, Repr

/-- The four claim queues, the issued requests, and the number of the next issue (R176, R177). -/
structure Port where
  q1          : List MemReq
  q2          : List MemReq
  q3          : List MemReq
  q4          : List MemReq
  outstanding : List Outstanding
  nextId      : Nat
  deriving DecidableEq, Repr

/-! ### Window Decoder (chapter 2) -/

inductive OverlapPolicy where
  | reconcile
  | trust
  | reject
  deriving DecidableEq, Repr

inductive ReadPolicy where
  | pass
  | fence
  deriving DecidableEq, Repr

inductive ByteOrder where
  | little
  | big
  deriving DecidableEq, Repr

inductive WinState where
  | off
  | active
  | fenced
  deriving DecidableEq, Repr

/-- A taken definition whose enable is 1 (R21). `s` is the bay size code. -/
structure WinDef where
  base        : Addr
  s           : Nat
  count       : Nat
  autoOpen    : Bool
  defaultKey  : Word64
  overlap     : OverlapPolicy
  readPolicy  : ReadPolicy
  order       : ByteOrder
  budget      : Nat
  idleLimit   : Nat
  holdLimit   : Nat
  guardTicks  : Nat
  threshold   : Nat
  isolate     : Bool
  deriving DecidableEq, Repr

/-- A taken definition. One whose enable is 0 describes no region, and none of its other fields ever has an effect
(R22, R32). -/
inductive TakenDef where
  | disabled
  | enabled (d : WinDef)
  deriving DecidableEq, Repr

/-- The ten counters of a window (R37). -/
structure WinCounters where
  opened        : Nat
  verified      : Nat
  failed        : Nat
  untracked     : Nat
  tableFull     : Nat
  straddleWrites : Nat
  straddleReads : Nat
  late          : Nat
  rejected      : Nat
  fenceErrors   : Nat
  deriving DecidableEq, Repr

def WinCounters.zero : WinCounters :=
  { opened := 0, verified := 0, failed := 0, untracked := 0, tableFull := 0, straddleWrites := 0,
    straddleReads := 0, late := 0, rejected := 0, fenceErrors := 0 }

/-- One entry of the window table (R20). The draining flag is set exactly while a staged definition is present, so it
is read off `staged`. -/
structure Window where
  state       : WinState
  defn        : Option WinDef
  staged      : Option TakenDef
  bound       : Nat
  strikes     : Nat
  counters    : WinCounters
  owedApplied : Bool
  owedFenced  : Bool
  deriving DecidableEq, Repr

def Window.initial : Window :=
  { state := .off, defn := none, staged := none, bound := 0, strikes := 0, counters := WinCounters.zero,
    owedApplied := false, owedFenced := false }

/-! ### Transfer Table (chapter 3), with the parts of a context that other blocks own -/

/-- The states of a context (R40). -/
inductive CtxState where
  | free
  | priming
  | collecting
  | verified
  | mismatch
  | refused
  | expired
  | lost
  | aborted
  | tainted
  | corrupted
  | guard
  deriving DecidableEq, Repr

/-- The causes of final transitions (R49). -/
inductive Cause where
  | checkEqual
  | checkUnequal
  | badMark
  | lengthRange
  | checkRange
  | lengthDiffers
  | idDiffers
  | lengthShort
  | idle
  | straddle
  | extentBudget
  | poolEmpty
  | trailerConflict
  | memoryError
  | reconcileError
  | closed
  | payloadWrite
  | trailerWrite
  | checkDiffers
  | readError
  deriving DecidableEq, Repr

/-- A half-open range [start, stop) of payload offsets (R65). -/
structure Extent where
  start : Nat
  stop  : Nat
  deriving DecidableEq, Repr

/-- The five decoded fields of a trailer (R80). -/
structure Trailer where
  mark  : Word32
  flags : Word32
  len   : Word64
  chk   : Word64
  objId : Word64
  deriving DecidableEq, Repr

/-- A final state with its cause (R49). -/
structure FinalRec where
  state : CtxState
  cause : Cause
  deriving DecidableEq, Repr

/-- What binding gives a context until it returns to FREE: transfer number, window, bay and reduced key (R40). -/
structure Binding where
  number : Word32
  win    : WinId
  bay    : Nat
  key    : Nat
  deriving DecidableEq, Repr

/-- One of the 256 contexts (R40). Byte t of the trailer shadow is `some` exactly where flag t of the trailer mask is
set (R82), and the trailer-taken flag is set exactly where `taken` holds the taken trailer (R86). -/
structure Context where
  state         : CtxState
  binding       : Option Binding
  ladder        : Option (List Nat)
  acc           : Nat
  len           : Option Nat
  chk           : Option Nat
  objId         : Option Word64
  tflags        : Option Word32
  shadow        : Vector (Option Byte) 32
  taken         : Option Trailer
  extents       : List Extent
  reconCount    : Nat
  idle          : Option Nat
  guardCount    : Option Nat
  isolated      : Bool
  verifiedCheck : Option Nat
  first         : Option FinalRec
  second        : Option FinalRec
  owed          : Nat
  newBytes      : Nat
  reconBytes    : Nat
  rejWrites     : Nat
  strayBytes    : Nat
  afterEnd      : Nat
  deriving DecidableEq, Repr

/-- A FREE context: no optional item, A = 0, every count 0 (R40, R55). -/
def Context.free : Context :=
  { state := .free, binding := none, ladder := none, acc := 0, len := none, chk := none, objId := none,
    tflags := none, shadow := Vector.replicate 32 none, taken := none, extents := [], reconCount := 0, idle := none,
    guardCount := none, isolated := false, verifiedCheck := none, first := none, second := none,
    owed := 0, newBytes := 0, reconBytes := 0, rejWrites := 0, strayBytes := 0, afterEnd := 0 }

/-- The extent pool's level and its lowest level since pin reset (R65, R66). -/
structure Pool where
  level  : Nat
  lowest : Nat
  deriving DecidableEq, Repr

/-- The ladder builder, IDLE or BUILDING one context, and the build queue (R6). -/
structure Builder where
  building : Option CtxId
  queue    : List CtxId
  deriving DecidableEq, Repr

/-! ### Reconcile Unit (chapter 6) and Fence Unit (chapter 8) -/

/-- Where an engine read stands (R101, R156). -/
inductive Standing where
  | waiting
  | issued
  | answered
  deriving DecidableEq, Repr

/-- A reconcile record (R101). `offset` is the payload offset of the held write's first byte. -/
structure ReconRec where
  write    : Request
  offset   : Nat
  pieces   : List Extent
  span     : Extent
  standing : Standing
  deriving DecidableEq, Repr

/-- A lane's reconcile slot (R101). A DETACHED slot names no context. -/
inductive Slot where
  | empty
  | attached (ctx : CtxId) (r : ReconRec)
  | detached (r : ReconRec)
  deriving DecidableEq, Repr

/-- A held read's record (R131). -/
structure FenceRec where
  win  : WinId
  bay  : Nat
  ctx  : CtxId
  hold : Nat
  deriving DecidableEq, Repr

/-! ### Time Base (chapter 9) -/

/-- Pending settings (R143). -/
structure Settings where
  interval : Nat
  period   : Nat
  attn     : Bool
  deriving DecidableEq, Repr

/-- The Time Base (R141). The last four are the model's own: `ticksDue` counts ticks the microsecond count has produced
and TICK has not delivered; `ctxDue`, `readDue` and `tickOpen` mark the contexts with a count, the lanes' held reads and
the Time Base whose event at the delivered tick has not been taken (R142, log entry 8). -/
structure TimeBase where
  running   : Bool
  micros    : Nat
  prescaler : Nat
  interval  : Nat
  period    : Nat
  countdown : Option Nat
  pendingSettings : Option Settings
  ticksDue  : Nat
  ctxDue    : Vector Bool 256
  readDue   : Vector Bool 16
  tickOpen  : Bool
  deriving DecidableEq, Repr

/-! ### Report Unit and Order Unit (chapter 11) -/

/-- Order statuses and refusals (R175, Codes). -/
inductive Status where
  | done
  | staged
  | badWindow
  | range
  | overlap
  | keyWeak
  | fenced
  | draining
  | badBay
  | alreadyBound
  | tableFull
  | notBound
  | final
  | notFinal
  | notFenced
  | busy
  | noSweep
  | unknownOrder
  deriving DecidableEq, Repr

/-- The causes of SWEEP-DONE (R175, Codes). -/
inductive SweepCause where
  | passEnd
  | stopped
  | windowChanged
  | cleared
  | restarted
  deriving DecidableEq, Repr

/-- What a result record reports, by kind (R175, Result records). -/
inductive Report where
  | startup (cpb : BitVec 8) (applied : Nat)
  | orderDone (code : Byte) (status : Status) (tag : Word16) (window : Byte) (ctx : Option CtxId)
      (value : Option Nat)
  | transferEnd (final : FinalRec) (ctx : CtxId) (win : WinId) (bay : Nat) (number : Word32) (len : Option Nat)
      (flags : Option Word32) (acc : Nat)
  | transferIds (ctx : CtxId) (number : Word32) (chk : Option Nat) (objId : Option Word64)
  | transferCounts (ctx : CtxId) (newBytes reconBytes strayBytes rejWrites afterEnd : Nat)
  | recheckFail (cause : Cause) (ctx : CtxId) (win : WinId) (bay : Nat) (number : Word32) (recomputed : Option Nat)
      (verified : Nat)
  | sweepDone (cause : SweepCause) (win : WinId) (checked failed skipped : Nat)
  | windowApplied (win : WinId) (state : WinState) (refusal : Option Status)
  | windowFenced (win : WinId) (strikes : Nat)
  deriving DecidableEq, Repr

/-- A built record, with its result sequence number (R169). -/
structure Record where
  seq  : Word32
  body : Report
  deriving DecidableEq, Repr

/-- The Report Unit (R167, R169, R171, R172). `snapWriting` is the block whose write is handed over and unanswered
while the snapshot state is WRITING, and absent while it is IDLE. `consumerIn` is the model's own: written consumer
values handed over by shadow copies and not yet taken, oldest first. -/
structure ReportUnit where
  list        : List Record
  seq         : Word32
  producer    : Word32
  consumer    : Word32
  inFlight    : Option Record
  snapWriting : Option Nat
  snapRepeat  : Bool
  snapNumber  : Word32
  badConsumer : Nat
  attnEnable  : Bool
  consumerIn  : List Word32
  deriving DecidableEq, Repr

/-- The Order Unit (R164, R165, R166). The shadow is held sparse: the page offset and value of every byte that is not
0, in rising order of offset; an unlisted byte is 0. -/
structure OrderUnit where
  shadow      : List Host.Cell
  slot        : Fin 64
  lap         : Byte
  examDue     : Bool
  waitingDone : Option Report
  deriving DecidableEq, Repr

/-! ### Recheck Sweeper (chapter 10) -/

inductive SweepState where
  | idle
  | running
  | waitingStep
  deriving DecidableEq, Repr

inductive SweepMode where
  | once
  | repeating
  | step
  deriving DecidableEq, Repr

/-- What a sweep holds while the sweeper is not IDLE (R151). -/
structure SweepJob where
  win     : WinId
  first   : Nat
  last    : Nat
  mode    : SweepMode
  current : Nat
  deriving DecidableEq, Repr

/-- A read of the current chunk of a visit (R156). -/
structure VisitRead where
  off      : Nat
  count    : Nat
  standing : Standing
  deriving DecidableEq, Repr

/-- A visit record (R151). `chunk` is the number of the chunk whose reads are listed. -/
structure Visit where
  ctx    : CtxId
  number : Word32
  len    : Nat
  sum    : Nat
  chunk  : Nat
  reads  : List VisitRead
  deriving DecidableEq, Repr

/-- The Recheck Sweeper (R151). -/
structure Sweeper where
  state   : SweepState
  job     : Option SweepJob
  checked : Nat
  failed  : Nat
  skipped : Nat
  visit   : Option Visit
  waiting : List Report
  deriving DecidableEq, Repr

/-! ### Engine counters -/

/-- The engine counters, but for bad consumer writes, which the Report Unit holds (R113, R127, R140). -/
structure Counters where
  reconBegun      : Nat
  reconCompleted  : Nat
  reconFailed     : Nat
  reconDetached   : Nat
  conflictHolds   : Nat
  trustedBytes    : Nat
  upstreamStalls  : Nat
  primingHolds    : Nat
  partAnswers     : Nat
  memErrors       : Nat
  fenceHolds      : Nat
  fenceReleases   : Nat
  fenceExpiries   : Nat
  fenceFailures   : Nat
  fenceRefusals   : Nat
  fenceClears     : Nat
  deriving DecidableEq, Repr

def Counters.zero : Counters :=
  { reconBegun := 0, reconCompleted := 0, reconFailed := 0, reconDetached := 0, conflictHolds := 0,
    trustedBytes := 0, upstreamStalls := 0, primingHolds := 0, partAnswers := 0, memErrors := 0, fenceHolds := 0,
    fenceReleases := 0, fenceExpiries := 0, fenceFailures := 0, fenceRefusals := 0, fenceClears := 0 }

/-- The state of the BQ-212. `upOut` lists the responses given on the upstream link since pin reset. `choices` counts
the choices taken from `Config.straddleHighFirst`. `pending` is the queue of waiting commands. -/
structure State where
  engine   : Engine
  lanes    : Vector Lane 16
  stall    : Option Stall
  upOut    : List Response
  port     : Port
  windows  : Vector Window 16
  ctxs     : Vector Context 256
  serial   : Word32
  pool     : Pool
  builder  : Builder
  slots    : Vector Slot 16
  fence    : Vector (Option FenceRec) 16
  time     : TimeBase
  report   : ReportUnit
  orders   : OrderUnit
  sweeper  : Sweeper
  counters : Counters
  choices  : Nat
  pending  : List Instr
  deriving DecidableEq, Repr

/-- The machine right after pin reset, RST_N still low (R179 and the table of section 12.5). The CPB straps are not
sampled until the release of RST_N; until then `cpb` is 0 (log entry 1). -/
def State.reset : State :=
  { engine := { state := .reset, cpb := 0, attn := false, faultN := true, load := .idle }
    lanes := Vector.replicate 16 Lane.empty
    stall := none
    upOut := []
    port := { q1 := [], q2 := [], q3 := [], q4 := [], outstanding := [], nextId := 0 }
    windows := Vector.replicate 16 Window.initial
    ctxs := Vector.replicate 256 Context.free
    serial := 0
    pool := { level := Config.poolSize, lowest := Config.poolSize }
    builder := { building := none, queue := [] }
    slots := Vector.replicate 16 Slot.empty
    fence := Vector.replicate 16 none
    time := { running := false, micros := 0, prescaler := 0, interval := 1, period := 0, countdown := none,
              pendingSettings := none, ticksDue := 0, ctxDue := Vector.replicate 256 false,
              readDue := Vector.replicate 16 false, tickOpen := false }
    report := { list := [], seq := 0, producer := 0, consumer := 0, inFlight := none, snapWriting := none,
                snapRepeat := false, snapNumber := 0, badConsumer := 0, attnEnable := false, consumerIn := [] }
    orders := { shadow := [], slot := 0, lap := 1, examDue := false, waitingDone := none }
    sweeper := { state := .idle, job := none, checked := 0, failed := 0, skipped := 0, visit := none, waiting := [] }
    counters := Counters.zero
    choices := 0
    pending := [] }

end Sys2Proof.Machine
end

