-- ==== Sys2Proof/Machine/Bytes.lean ====
section
/-! DEFINITION. Byte order, saturating counts, the per-lane and per-context tables, and the shadow's sparse memory. -/

namespace Sys2Proof.Machine

/-! ### Byte order (00_scope.md, Conventions, Byte order; R175) -/

/-- The number that bytes spell, the first the least significant. -/
def leNat : List Byte → Nat
  | [] => 0
  | b :: rest => b.toNat + 256 * leNat rest

/-- The number that bytes spell, the first the most significant. -/
def beNat (bs : List Byte) : Nat := leNat bs.reverse

/-- The low `n` bytes of a number, the least significant first. -/
def leBytes : Nat → Nat → List Byte
  | 0, _ => []
  | n + 1, x => BitVec.ofNat 8 x :: leBytes n (x / 256)

/-! ### Counters (00_scope.md, Conventions, Counters) -/

/-- A 32-bit saturating counter raised by `n`. -/
def raise (c n : Nat) : Nat := min (c + n) Config.counterMax

/-! ### Tables -/

def getLane (s : State) (l : LaneId) : Lane := s.lanes[l.val]'l.isLt

def getSlot (s : State) (l : LaneId) : Slot := s.slots[l.val]'l.isLt

def getFence (s : State) (l : LaneId) : Option FenceRec := s.fence[l.val]'l.isLt

def getWin (s : State) (w : WinId) : Window := s.windows[w.val]'w.isLt

def getCtx (s : State) (c : CtxId) : Context := s.ctxs[c.val]'c.isLt

def setLane (s : State) (l : LaneId) (x : Lane) : State := { s with lanes := s.lanes.set l.val x l.isLt }

def setSlot (s : State) (l : LaneId) (x : Slot) : State := { s with slots := s.slots.set l.val x l.isLt }

def setFence (s : State) (l : LaneId) (x : Option FenceRec) : State :=
  { s with fence := s.fence.set l.val x l.isLt }

def setWin (s : State) (w : WinId) (x : Window) : State := { s with windows := s.windows.set w.val x w.isLt }

def setCtx (s : State) (c : CtxId) (x : Context) : State := { s with ctxs := s.ctxs.set c.val x c.isLt }

/-- A change of one context. -/
def modCtx (s : State) (c : CtxId) (f : Context → Context) : State := setCtx s c (f (getCtx s c))

/-- A change of one window. -/
def modWin (s : State) (w : WinId) (f : Window → Window) : State := setWin s w (f (getWin s w))

/-- A change of one window's counters. -/
def modWinCounters (s : State) (w : WinId) (f : WinCounters → WinCounters) : State :=
  modWin s w fun x => { x with counters := f x.counters }

/-- A change of the engine counters. -/
def modCounters (s : State) (f : Counters → Counters) : State := { s with counters := f s.counters }

def modReport (s : State) (f : ReportUnit → ReportUnit) : State := { s with report := f s.report }

def modOrders (s : State) (f : OrderUnit → OrderUnit) : State := { s with orders := f s.orders }

def modSweeper (s : State) (f : Sweeper → Sweeper) : State := { s with sweeper := f s.sweeper }

def modTime (s : State) (f : TimeBase → TimeBase) : State := { s with time := f s.time }

def modPort (s : State) (f : Port → Port) : State := { s with port := f s.port }

/-! ### The shadow (R164): a memory of page offsets in which an unlisted byte is 0 -/

/-- The byte at an offset. -/
def readByte : List Host.Cell → Nat → Byte
  | [], _ => 0
  | (a, b) :: rest, x => if a = x then b else readByte rest x

/-- The bytes of `n` offsets from `x` on. -/
def readBytes (m : List Host.Cell) (x : Nat) : Nat → List Byte
  | 0 => []
  | n + 1 => readByte m x :: readBytes m (x + 1) n

/-- A write of one byte. It keeps the offsets rising and lists no byte that is 0. -/
def writeByte : List Host.Cell → Nat → Byte → List Host.Cell
  | [], x, v => if v = 0 then [] else [(x, v)]
  | (a, b) :: rest, x, v =>
    if x < a then (if v = 0 then (a, b) :: rest else (x, v) :: (a, b) :: rest)
    else if x = a then (if v = 0 then rest else (x, v) :: rest)
    else (a, b) :: writeByte rest x v

/-- The canonical form: offsets strictly rising, and no byte listed that is 0. -/
def shadowWf : List Host.Cell → Bool
  | [] => true
  | [(_, b)] => decide (b ≠ 0)
  | (a, b) :: (a', b') :: rest => decide (b ≠ 0) && decide (a < a') && shadowWf ((a', b') :: rest)

/-- The settings block (R163). -/
def inSettings (off : Nat) : Bool := decide (off < 0x40)

/-- The result consumer count (R163). -/
def inConsumer (off : Nat) : Bool := decide (0x40 ≤ off ∧ off < 0x44)

/-- The window table (R163). -/
def inWindowTable (off : Nat) : Bool := decide (0x400 ≤ off ∧ off < 0x800)

/-- The order ring (R163). -/
def inRing (off : Nat) : Bool := decide (0x800 ≤ off ∧ off < 0x1000)

/-- The software-owned areas of the control page (R163). -/
def softwareOwned (off : Nat) : Bool := inSettings off || inConsumer off || inWindowTable off || inRing off

/-- Bytes of consecutive page offsets copied into the shadow where software owns them (R164). -/
def copyBytes : List Host.Cell → Nat → List Byte → List Host.Cell
  | m, _, [] => m
  | m, off, b :: rest => copyBytes (if softwareOwned off then writeByte m off b else m) (off + 1) rest

end Sys2Proof.Machine
end

