-- ==== Sys2Proof/Machine/Check.lean ====
section
/-! DEFINITION. The position-weighted check (chapter 1): the field, keys, the ladder, powers, contributions. -/

namespace Sys2Proof.Machine

/-- The modulus 2^61 - 1 (section 1.1). -/
def P : Nat := 2305843009213693951

/-- R2, steps 1 and 2: the low 61 bits added to the rest. -/
def fold61 (x : Nat) : Nat := x / 2305843009213693952 + x % 2305843009213693952

/-- R2, step 3: folding while the value is 2^62 or more. The fuel bounds the number of rounds. -/
def foldDown : Nat → Nat → Nat
  | 0, x => x
  | fuel + 1, x => if 4611686018427387904 ≤ x then foldDown fuel (fold61 x) else x

/-- R2: the residue modulo p, by one fold, further folds while 2^62 or more remains, and one subtraction. -/
def reduce (x : Nat) : Nat :=
  let y := foldDown (x.log2 + 1) (fold61 x)
  if P ≤ y then y - P else y

def mulMod (x y : Nat) : Nat := reduce (x * y)

def addMod (x y : Nat) : Nat := reduce (x + y)

/-- R4: a reduced key of 0, 1 or p - 1. -/
def weakKey (r : Nat) : Bool := decide (r = 0 ∨ r = 1 ∨ r = P - 1)

/-- `n` entries of a ladder from `r` on, each the square of the one before. -/
def squares : Nat → Nat → List Nat
  | 0, _ => []
  | n + 1, r => r :: squares n (mulMod r r)

/-- R5: the 26 values r^(2^k), k = 0 to 25. -/
def ladderOf (r : Nat) : List Nat := squares 26 r

/-- R10: the running product over the ladder entries whose bit of the offset is set. -/
def powerFrom : List Nat → Nat → Nat → Nat
  | [], _, acc => acc
  | e :: rest, a, acc => powerFrom rest (a / 2) (if a % 2 = 1 then mulMod acc e else acc)

/-- R10: P(a), the key's power at offset a. -/
def powerAt (ladder : List Nat) (a : Nat) : Nat := powerFrom ladder a 1

/-- R11: the inner sum, by Horner's rule from the last byte. -/
def horner (r : Nat) : List Byte → Nat
  | [] => 0
  | d :: rest => reduce (horner r rest * r + d.toNat)

/-- R11: the contribution of a piece of bytes at an offset. The key is entry 0 of the ladder (R5). -/
def contribution (ladder : List Nat) (a : Nat) (data : List Byte) : Nat :=
  mulMod (powerAt ladder a) (horner (ladder.headD 0) data)

/-- R14: one piece's correction of an accumulator. -/
def correct (acc cOld cNew : Nat) : Nat := addMod (reduce (acc + P - cOld)) cNew

/-- The bytes of a piece, cut from data whose first byte stands at `off`. -/
def pieceBytes (off : Nat) (data : List Byte) (p : Extent) : List Byte :=
  (data.drop (p.start - off)).take (p.stop - p.start)

/-- R12: the contributions of new pieces added to an accumulator. -/
def addPieces (ladder : List Nat) (off : Nat) (data : List Byte) : List Extent → Nat → Nat
  | [], acc => acc
  | p :: rest, acc => addPieces ladder off data rest (addMod acc (contribution ladder p.start (pieceBytes off data p)))

/-- R14: the corrections of overlapped pieces, in increasing order of offset. `oldOff` is the offset of the first old
byte read back. -/
def correctPieces (ladder : List Nat) (oldOff : Nat) (old : List Byte) (newOff : Nat) (new : List Byte) :
    List Extent → Nat → Nat
  | [], acc => acc
  | p :: rest, acc =>
    correctPieces ladder oldOff old newOff new rest
      (correct acc (contribution ladder p.start (pieceBytes oldOff old p))
        (contribution ladder p.start (pieceBytes newOff new p)))

end Sys2Proof.Machine
end

