-- ==== Sys2Proof/Machine/Coverage.lean ====
section
/-! DEFINITION. Extent lists (chapter 4): the division of a write, insertion, completeness. -/

namespace Sys2Proof.Machine

/-- R69: the overlapped pieces of an effective range [e, f), in increasing order of offset. -/
def overlapPieces (e f : Nat) : List Extent → List Extent
  | [] => []
  | x :: rest =>
    if max e x.start < min f x.stop then
      { start := max e x.start, stop := min f x.stop } :: overlapPieces e f rest
    else overlapPieces e f rest

/-- R69: the new pieces, the gaps that the overlapped pieces leave of [e, f). -/
def newPieces (e f : Nat) : List Extent → List Extent
  | [] => if e < f then [{ start := e, stop := f }] else []
  | x :: rest =>
    if e < x.start then { start := e, stop := x.start } :: newPieces x.stop f rest else newPieces x.stop f rest

/-- The bytes a list of pieces covers. -/
def totalLength : List Extent → Nat
  | [] => 0
  | x :: rest => (x.stop - x.start) + totalLength rest

/-- The division of a taken payload write (R68, R69): its effective range [a, stop), its stray bytes, its new and its
overlapped pieces. -/
structure Division where
  stop    : Nat
  stray   : Nat
  fresh   : List Extent
  overlap : List Extent
  deriving DecidableEq, Repr

/-- R68, R69: a write of `n` bytes at offset `a`, against the list and the object length where it is known. -/
def divide (list : List Extent) (len : Option Nat) (a n : Nat) : Division :=
  let stop := match len with
    | none => a + n
    | some l => max a (min (a + n) l)
  let pieces := overlapPieces a stop list
  { stop := stop, stray := a + n - stop, fresh := newPieces a stop pieces, overlap := pieces }

/-- R70: an extent shares an offset with [e, f) or touches it. -/
def meets (e f : Nat) (x : Extent) : Bool := decide (e ≤ x.stop ∧ x.start ≤ f)

/-- R70: the number k of extents that an insertion replaces. -/
def meetCount (e f : Nat) (list : List Extent) : Nat := (list.filter (meets e f)).length

/-- R70: the replacing extent, from the least start to the greatest end. -/
def hull (e f : Nat) : List Extent → Extent
  | [] => { start := e, stop := f }
  | x :: rest => hull (min e x.start) (max f x.stop) rest

/-- R70: insertion of the new pieces of [e, f): the extents that meet it become one. -/
def insertRange (e f : Nat) (list : List Extent) : List Extent :=
  list.filter (fun x => decide (x.stop < e)) ++ hull e f (list.filter (meets e f)) ::
    list.filter (fun x => decide (f < x.start))

/-- R67: nonempty extents in increasing order, no two sharing an offset or touching. -/
def extentsWf : List Extent → Bool
  | [] => true
  | [x] => decide (x.start < x.stop)
  | x :: y :: rest => decide (x.start < x.stop) && decide (x.stop < y.start) && extentsWf (y :: rest)

/-- R76: the coverage is exactly [0, L). -/
def complete (list : List Extent) (len : Option Nat) : Bool :=
  match len with
  | none => false
  | some 0 => list.isEmpty
  | some (l + 1) => decide (list = [{ start := 0, stop := l + 1 }])

/-- R77: the last extent ends beyond the length. -/
def reachesBeyond (list : List Extent) (len : Nat) : Bool :=
  match list.getLast? with
  | none => false
  | some x => decide (len < x.stop)

end Sys2Proof.Machine
end

