-- ==== Sys2Proof/Machine/Operands.lean ====
section
/-! DEFINITION. What the part reads out of requests, the control page and trailers: address classes (R23, R24), window
definitions and their validation (R21, R22), order slots (R175) and trailers (R80, R81, R84). -/

namespace Sys2Proof.Machine

/-! ### The control page -/

/-- The base of the control page, CPB times 2^32 (R163). -/
def pageBase (s : State) : Nat := 4294967296 * s.engine.cpb.toNat

/-- An address of the control page (R163). -/
def pageAddr (s : State) (off : Nat) : Addr := BitVec.ofNat 40 (pageBase s + off)

/-! ### Window definitions (R21) -/

/-- The bay size 2^s (R21). -/
def WinDef.baySize (d : WinDef) : Nat := 2 ^ d.s

/-- The payload capacity C (R21). -/
def WinDef.capacity (d : WinDef) : Nat := d.baySize - 64

/-- The end of the region (R21). -/
def WinDef.regionEnd (d : WinDef) : Nat := d.base.toNat + d.count * d.baySize

/-- The address of a bay's first byte (R21). -/
def WinDef.bayBase (d : WinDef) (bay : Nat) : Nat := d.base.toNat + bay * d.baySize

/-- The draining flag, set exactly while a staged definition is present (R20). -/
def Window.draining (w : Window) : Bool := w.staged.isSome

/-- The definition whose region is classified: none while OFF (R23, R28). -/
def Window.region (w : Window) : Option WinDef :=
  match w.state with
  | .off => none
  | .active => w.defn
  | .fenced => w.defn

def overlapOfCode (c : Byte) : Option OverlapPolicy :=
  if c = 1 then some .reconcile else if c = 2 then some .trust else if c = 3 then some .reject else none

def readPolicyOfCode (c : Byte) : Option ReadPolicy :=
  if c = 1 then some .pass else if c = 2 then some .fence else none

def orderOfCode (c : Byte) : Option ByteOrder :=
  if c = 1 then some .little else if c = 2 then some .big else none

/-- R21: the extent budget, 0 taken as 1 and above 64 as 64. -/
def clampBudget (n : Nat) : Nat := min (max n 1) 64

/-- R21: a limit in ticks, 0 taken as 1. -/
def clampTicks (n : Nat) : Nat := max n 1

/-- A little-endian field of the control page (R175). -/
def field (bytes : List Byte) (start n : Nat) : Nat := leNat ((bytes.drop start).take n)

def byteAt (bytes : List Byte) (i : Nat) : Byte := bytes.getD i 0

/-- R21: the taken definition that a 64-byte window table entry holds, with `none` where one of its three enumerated
codes is unlisted, a definition that R22 refuses RANGE when its enable is 1. -/
def takeDefinition (e : List Byte) : Option TakenDef :=
  if byteAt e 0 = 0 then some .disabled
  else
    match overlapOfCode (byteAt e 5), readPolicyOfCode (byteAt e 6), orderOfCode (byteAt e 7) with
    | some ov, some rp, some bo =>
      some (.enabled
        { base := BitVec.ofNat 40 (field e 8 5), s := (byteAt e 1).toNat, count := field e 2 2,
          autoOpen := decide (byteAt e 4 ≠ 0), defaultKey := BitVec.ofNat 64 (field e 16 8),
          overlap := ov, readPolicy := rp, order := bo,
          budget := clampBudget (byteAt e 24).toNat, idleLimit := clampTicks (field e 28 2),
          holdLimit := clampTicks (field e 30 2), guardTicks := field e 32 2, threshold := (byteAt e 25).toNat,
          isolate := decide (byteAt e 26 ≠ 0) })
    | _, _, _ => none

/-- The entry of a window in the shadow's window table (R21, R175). -/
def windowEntry (s : State) (w : WinId) : List Byte := readBytes s.orders.shadow (0x400 + 64 * w.val) 64

/-- R22, check 2, but for the enumerated codes: sizes, count, alignment and the end of the address space. -/
def rangeOk (d : WinDef) : Bool :=
  decide (16 ≤ d.s ∧ d.s ≤ 26) && decide (1 ≤ d.count ∧ d.count ≤ 4096) &&
    decide (d.base.toNat % d.baySize = 0) && decide (d.regionEnd ≤ 2 ^ 40)

/-- Two half-open ranges share an address. -/
def rangesMeet (a b c d : Nat) : Bool := decide (max a c < min b d)

/-- R22, check 3, against one other window: its region where ACTIVE or FENCED, and its enabled staged definition. -/
def overlapsWindow (d : WinDef) (w : Window) : Bool :=
  (match w.region with
    | some e => rangesMeet d.base.toNat d.regionEnd e.base.toNat e.regionEnd
    | none => false) ||
  (match w.staged with
    | some (.enabled e) => rangesMeet d.base.toNat d.regionEnd e.base.toNat e.regionEnd
    | some .disabled => false
    | none => false)

/-- R22, check 3: the control page, and every window but this one. -/
def overlapsAny (s : State) (w : WinId) (d : WinDef) : Bool :=
  rangesMeet d.base.toNat d.regionEnd (pageBase s) (pageBase s + Config.pageSize) ||
    allWins.any fun v => decide (v ≠ w) && overlapsWindow d (getWin s v)

/-- R22, checks 2 to 4 on a taken definition for a window. -/
def validate (s : State) (w : WinId) (t : Option TakenDef) : Option Status :=
  match t with
  | none => some .range
  | some .disabled => none
  | some (.enabled d) =>
    if !rangeOk d then some .range
    else if overlapsAny s w d then some .overlap
    else if d.autoOpen && weakKey (reduce d.defaultKey.toNat) then some .keyWeak
    else none

/-! ### Address classes (R23, R24) -/

/-- The bytes [lo, hi) of one bay, by offset, that a request covers. -/
structure Touch where
  win : WinId
  bay : Nat
  lo  : Nat
  hi  : Nat
  d   : WinDef
  deriving DecidableEq, Repr

/-- R23: the bays of one window that the bytes [x, x + n) lie in. -/
def bayTouches (w : WinId) (d : WinDef) (x n : Nat) : List Touch :=
  let lo := max x d.base.toNat - d.base.toNat
  let hi := min (x + n) d.regionEnd - d.base.toNat
  if max x d.base.toNat < min (x + n) d.regionEnd then
    let b0 := lo / d.baySize
    let b1 := (hi - 1) / d.baySize
    if b0 = b1 then
      [{ win := w, bay := b0, lo := lo - b0 * d.baySize, hi := hi - b0 * d.baySize, d := d }]
    else
      [{ win := w, bay := b0, lo := lo - b0 * d.baySize, hi := d.baySize, d := d },
       { win := w, bay := b1, lo := 0, hi := hi - b1 * d.baySize, d := d }]
  else []

/-- R23: every bay that a request has a byte in, by window and then by bay. -/
def touches (s : State) (x n : Nat) : List Touch :=
  allWins.flatMap fun w =>
    match (getWin s w).region with
    | some d => bayTouches w d x n
    | none => []

/-- R23: a request has a byte in the control page. -/
def inPage (s : State) (x n : Nat) : Bool := rangesMeet x (x + n) (pageBase s) (pageBase s + Config.pageSize)

/-- R24: the address classes. `both` is row 5, a payload piece and a trailer piece of one bay. -/
inductive AddrClass where
  | control
  | straddle (ts : List Touch)
  | payload (t : Touch)
  | trailer (t : Touch)
  | both (t : Touch)
  | outside
  deriving DecidableEq, Repr

/-- R24, rows 1, 2 and 6 by the units touched, rows 3 to 5 by the areas of the one bay. -/
def classOf (s : State) (x n : Nat) : AddrClass :=
  match touches s x n with
  | [] => if inPage s x n then .control else .outside
  | [t] =>
    if t.hi - t.lo = n then
      if t.hi ≤ t.d.capacity then .payload t else if t.d.capacity ≤ t.lo then .trailer t else .both t
    else .straddle [t]
  | t :: u :: rest => .straddle (t :: u :: rest)

def classify (s : State) (r : Request) : AddrClass := classOf s r.addr.toNat r.count

/-- The request has a byte of the bay's payload area (rows 3 and 5 of R24). -/
def Touch.hasPayload (t : Touch) : Bool := decide (t.lo < t.d.capacity)

/-- The request has a byte of the bay's trailer area (rows 4 and 5 of R24). -/
def Touch.hasTrailer (t : Touch) : Bool := decide (t.d.capacity < t.hi)

/-- R26: at least one byte of the payload area or of trailer bytes 0 to 31. A request of one bay that does not touch
it in this sense carries only trailer bytes 32 to 63 (R58). -/
def Touch.significant (t : Touch) : Bool := decide (t.lo < t.d.capacity + 32)

/-- A request touches a bay in the sense of R26. -/
def touchesBay (s : State) (r : Request) (w : WinId) (bay : Nat) : Bool :=
  (touches s r.addr.toNat r.count).any fun t => decide (t.win = w) && decide (t.bay = bay) && t.significant

/-- Two requests share a byte address (R110). -/
def requestsMeet (a b : Request) : Bool :=
  rangesMeet a.addr.toNat (a.addr.toNat + a.count) b.addr.toNat (b.addr.toNat + b.count)

/-! ### Order slots (R165, R175) -/

/-- An order as read from its slot. -/
structure Order where
  code  : Byte
  tag   : Word16
  win   : Byte
  mode  : Byte
  bay   : Nat
  body  : List Byte
  deriving DecidableEq, Repr

def readOrder (slot : List Byte) : Order :=
  { code := byteAt slot 0, tag := BitVec.ofNat 16 (field slot 2 2), win := byteAt slot 4, mode := byteAt slot 5,
    bay := field slot 6 2, body := slot.drop 8 }

/-- The 32 bytes of a slot of the shadow's order ring. -/
def slotBytes (s : State) (n : Fin 64) : List Byte := readBytes s.orders.shadow (0x800 + 32 * n.val) 32

/-- The window that an order names, where its window byte is at most 15. -/
def Order.window (o : Order) : Option WinId := if h : o.win.toNat < 16 then some ⟨o.win.toNat, h⟩ else none

/-- OPEN's key field. -/
def Order.key (o : Order) : Nat := field o.body 0 8

/-- OPEN's object id, where its id-present flag is set. -/
def Order.objId (o : Order) : Option Word64 :=
  if o.mode.getLsbD 1 then some (BitVec.ofNat 64 (field o.body 8 8)) else none

/-- OPEN's length, where its length-present flag is set. -/
def Order.length (o : Order) : Option Nat := if o.mode.getLsbD 0 then some (field o.body 16 8) else none

/-- RECHECK's mode, bits 0 to 3 of the mode byte. -/
def Order.sweepMode (o : Order) : Option SweepMode :=
  if o.mode.toNat % 16 = 1 then some .once else if o.mode.toNat % 16 = 2 then some .repeating
  else if o.mode.toNat % 16 = 3 then some .step else none

/-- RECHECK's restart flag, bit 7 of the mode byte. -/
def Order.restart (o : Order) : Bool := o.mode.getLsbD 7

/-- RECHECK's first bay. -/
def Order.firstBay (o : Order) : Nat := field o.body 0 2

/-- RECHECK's last bay. -/
def Order.lastBay (o : Order) : Nat := field o.body 2 2

/-- The settings block's three values, with the clamp of R168. -/
def readSettings (s : State) : Settings :=
  let b := readBytes s.orders.shadow 0 5
  { interval := clampTicks (field b 0 2), period := field b 2 2, attn := decide (byteAt b 4 ≠ 0) }

/-! ### Trailers (chapter 5) -/

/-- R80: the fixed mark. -/
def trailerMark : Word32 := 0x7E3CA5D1

/-- R81: a field in the window's trailer byte order. -/
def trailerField (o : ByteOrder) (bytes : List Byte) (start n : Nat) : Nat :=
  match o with
  | .little => leNat ((bytes.drop start).take n)
  | .big => beNat ((bytes.drop start).take n)

/-- R81: the five fields that 32 trailer bytes decode to. -/
def decodeTrailer (o : ByteOrder) (bytes : List Byte) : Trailer :=
  { mark := BitVec.ofNat 32 (trailerField o bytes 0 4), flags := BitVec.ofNat 32 (trailerField o bytes 4 4),
    len := BitVec.ofNat 64 (trailerField o bytes 8 8), chk := BitVec.ofNat 64 (trailerField o bytes 16 8),
    objId := BitVec.ofNat 64 (trailerField o bytes 24 8) }

/-- The bytes of a trailer shadow, an absent byte as 0. -/
def shadowBytes (v : Vector (Option Byte) 32) : List Byte := v.toList.map fun b => b.getD 0

/-- R82: every flag of the trailer mask is set. -/
def maskFull (v : Vector (Option Byte) 32) : Bool := v.toList.all Option.isSome

/-- R82: the merge of a write's trailer bytes 0 to 31. The request covers the bay offsets [lo, hi) and C is the payload
capacity, so trailer byte t is the byte at offset C + t. -/
def mergeTrailer (v : Vector (Option Byte) 32) (t : Touch) (data : List Byte) : Vector (Option Byte) 32 :=
  Vector.ofFn fun i : Fin 32 =>
    if t.lo ≤ t.d.capacity + i.val ∧ t.d.capacity + i.val < t.hi then
      some (data.getD (t.d.capacity + i.val - t.lo) 0)
    else v[i.val]'i.isLt

/-- R84: the checks of a trailer whose mask is complete, in order. The context's L and object id are, at this moment,
those that OPEN gave. -/
def trailerRefusal (d : WinDef) (cx : Context) (t : Trailer) : Option Cause :=
  if t.mark ≠ trailerMark then some .badMark
  else if d.capacity < t.len.toNat then some .lengthRange
  else if P ≤ t.chk.toNat then some .checkRange
  else if cx.len.any (fun l => decide (l ≠ t.len.toNat)) then some .lengthDiffers
  else if cx.objId.any (fun i => decide (i ≠ t.objId)) then some .idDiffers
  else if reachesBeyond cx.extents t.len.toNat then some .lengthShort
  else none

end Sys2Proof.Machine
end

