-- ==== Sys2Proof/Machine/Flags.lean ====
section
/-! DEFINITION. The conditions the part computes from its state: what is owed, who has room, who may act, the pins. -/

namespace Sys2Proof.Machine

def isRunning (s : State) : Bool := decide (s.engine.state = .running)

/-- An owed window record exists (R38). -/
def owedWindow (s : State) : Bool := s.windows.toList.any fun w => w.owedApplied || w.owedFenced

/-- An owed transfer report exists (R62). -/
def owedTransfer (s : State) : Bool := s.ctxs.toList.any fun c => decide (0 < c.owed)

/-- An owed window record, owed transfer report or sweeper waiting record exists (R165, R169). -/
def anyOwed (s : State) : Bool := owedWindow s || owedTransfer s || !s.sweeper.waiting.isEmpty

/-- R169: the list has free places for `n` records and nothing is owed. -/
def hasRoom (s : State) (n : Nat) : Bool := decide (s.report.list.length + n ≤ Config.pendingMax) && !anyOwed s

/-- R115: why a lane's head is held, where it is. -/
def Head.hold (h : Head) : Option HoldReason :=
  match h.standing with
  | .held reason => some reason
  | .fresh => none
  | .released => none

/-- R165: the Order Unit is able to take an order. -/
def able (s : State) : Bool :=
  isRunning s && s.orders.waitingDone.isNone && decide (s.report.list.length < Config.pendingMax) && !anyOwed s

/-- R171: the number of unconsumed records. -/
def unconsumed (s : State) : Nat := (s.report.producer - s.report.consumer).toNat

/-- R173: when ATTN is asserted. -/
def attnLevel (s : State) : Bool := isRunning s && s.report.attnEnable && decide (0 < unconsumed s)

/-- R171: a record may leave the front of the pending list. -/
def mayLeave (s : State) : Bool :=
  isRunning s && s.report.inFlight.isNone && decide (unconsumed s < Config.ringSlots)

/-- R172: the test of a written consumer value. -/
def consumerOk (s : State) (v : Word32) : Bool :=
  decide ((s.report.producer - v).toNat + (if s.report.inFlight.isSome then 1 else 0) ≤ Config.ringSlots)

/-- The states of R42 in which a transfer has ended. -/
def CtxState.isFinal : CtxState → Bool
  | .free => false
  | .priming => false
  | .collecting => false
  | .guard => false
  | .verified => true
  | .mismatch => true
  | .refused => true
  | .expired => true
  | .lost => true
  | .aborted => true
  | .tainted => true
  | .corrupted => true

/-- R41: a context is bound to this (window, bay) pair. -/
def boundTo (w : WinId) (bay : Nat) (cx : Context) : Bool :=
  match cx.binding with
  | some b => decide (b.win = w) && decide (b.bay = bay)
  | none => false

/-- R41: the binding map, read off the contexts' bindings. -/
def lookup (s : State) (w : WinId) (bay : Nat) : Option CtxId := allCtxs.find? fun c => boundTo w bay (getCtx s c)

/-- R43: the lowest-numbered FREE context. -/
def lowestFree (s : State) : Option CtxId := allCtxs.find? fun c => decide ((getCtx s c).state = .free)

/-- The number of FREE contexts. -/
def freeCount (s : State) : Nat := (s.ctxs.toList.filter fun c => decide (c.state = .free)).length

/-- R51: the context bound to a bay is isolated. -/
def bayIsolated (s : State) (w : WinId) (bay : Nat) : Bool :=
  match lookup s w bay with
  | some c => (getCtx s c).isolated
  | none => false

/-- The state of the transfer bound to a bay. -/
def bayState (s : State) (w : WinId) (bay : Nat) : Option CtxState := (lookup s w bay).map fun c => (getCtx s c).state

/-- The write that a slot holds (R101). -/
def Slot.write : Slot → Option Request
  | .empty => none
  | .attached _ r => some r.write
  | .detached r => some r.write

/-- R110: a request conflicts with a write held in the slot of another lane. -/
def conflicts (s : State) (l : LaneId) (r : Request) : Bool :=
  allLanes.any fun k =>
    decide (k ≠ l) &&
      match (getSlot s k).write with
      | some w => requestsMeet r w
      | none => false

/-- The context's event at the delivered tick has not been taken. -/
def ctxDue (s : State) (c : CtxId) : Bool := s.time.ctxDue[c.val]'c.isLt

/-- The event of the lane's held read at the delivered tick has not been taken. -/
def readDue (s : State) (l : LaneId) : Bool := s.time.readDue[l.val]'l.isLt

/-- R146, R148: the context holds a count that a tick lowers. -/
def CtxState.ages : CtxState → Bool
  | .collecting => true
  | .guard => true
  | .free => false
  | .priming => false
  | .verified => false
  | .mismatch => false
  | .refused => false
  | .expired => false
  | .lost => false
  | .aborted => false
  | .tainted => false
  | .corrupted => false

/-- The delivered tick still awaits the event of a context with a count, of a held read, or of a Time Base that has
settings to adopt or a countdown to lower (log entry 8). -/
def tickUnfinished (s : State) : Bool :=
  allCtxs.any (fun c => ctxDue s c && (getCtx s c).state.ages) ||
    allLanes.any (fun l => readDue s l && (getFence s l).isSome) ||
    (s.time.tickOpen && (s.time.pendingSettings.isSome || s.time.countdown.isSome))

/-- The forwarded records of the Lane Front: those of requests waiting in class 1 and of issued requests (R123). -/
def forwardedRecords (s : State) : List FwdRecord :=
  (s.port.q1.map (·.owner) ++ s.port.outstanding.map (·.req.owner)).filterMap fun o =>
    match o with
    | .forwarded r => some r
    | .reconcile _ => none
    | .record => none
    | .producerWord => none
    | .statusBlock => none
    | .recheck _ => none
    | .loadRead _ => none
    | .loadClear => none
    | .orphan => none

end Sys2Proof.Machine
end

