-- ==== Sys2Proof/Machine/Formats.lean ====
section
/-! DEFINITION. The bytes the part writes into the control page (R175, section 11.11). -/

namespace Sys2Proof.Machine

/-! ### Codes -/

/-- Status codes; 14 is reserved and not written. -/
def statusCode : Status → Nat
  | .done => 0
  | .staged => 1
  | .badWindow => 2
  | .range => 3
  | .overlap => 4
  | .keyWeak => 5
  | .fenced => 6
  | .draining => 7
  | .badBay => 8
  | .alreadyBound => 9
  | .tableFull => 10
  | .notBound => 11
  | .final => 12
  | .notFinal => 13
  | .notFenced => 15
  | .busy => 16
  | .noSweep => 17
  | .unknownOrder => 18

/-- Final state codes; the states that are not final have none, and no record carries one. -/
def finalCode : CtxState → Nat
  | .verified => 1
  | .mismatch => 2
  | .refused => 3
  | .expired => 4
  | .lost => 5
  | .aborted => 6
  | .tainted => 7
  | .corrupted => 8
  | .free => 0
  | .priming => 0
  | .collecting => 0
  | .guard => 0

/-- Transfer cause codes. -/
def causeCode : Cause → Nat
  | .checkEqual => 1
  | .checkUnequal => 2
  | .badMark => 3
  | .lengthRange => 4
  | .checkRange => 5
  | .lengthDiffers => 6
  | .idDiffers => 7
  | .lengthShort => 8
  | .idle => 9
  | .straddle => 10
  | .extentBudget => 11
  | .poolEmpty => 12
  | .trailerConflict => 13
  | .memoryError => 14
  | .reconcileError => 15
  | .closed => 16
  | .payloadWrite => 17
  | .trailerWrite => 18
  | .checkDiffers => 19
  | .readError => 20

def sweepCauseCode : SweepCause → Nat
  | .passEnd => 1
  | .stopped => 2
  | .windowChanged => 3
  | .cleared => 4
  | .restarted => 5

def winStateCode : WinState → Nat
  | .off => 0
  | .active => 1
  | .fenced => 2

def sweepStateCode : SweepState → Nat
  | .idle => 0
  | .running => 1
  | .waitingStep => 2

def sweepModeCode : SweepMode → Nat
  | .once => 1
  | .repeating => 2
  | .step => 3

/-- Lane codes: FLOWING, or the hold reason. -/
def laneCode (l : Lane) : Nat :=
  match l.head with
  | none => 0
  | some h =>
    match h.standing with
    | .fresh => 0
    | .released => 0
    | .held .priming => 1
    | .held .reconcile => 2
    | .held .conflict => 3
    | .held .fence => 4

/-! ### Result records -/

/-- The present flags of two optional fields, bit 0 and bit 1. -/
def presentFlags (a b : Bool) : Nat := (if a then 1 else 0) + (if b then 2 else 0)

/-- The kind, the present flags and bytes 2 and 3 of a record. -/
def recordHead : Report → List Byte
  | .startup _ _ => [1, 0, 0, 0]
  | .orderDone code status _ _ ctx value =>
    [2, BitVec.ofNat 8 (presentFlags ctx.isSome value.isSome), code, BitVec.ofNat 8 (statusCode status)]
  | .transferEnd final _ _ _ _ len flags _ =>
    [3, BitVec.ofNat 8 (presentFlags len.isSome flags.isSome), BitVec.ofNat 8 (finalCode final.state),
      BitVec.ofNat 8 (causeCode final.cause)]
  | .transferIds _ _ chk objId => [4, BitVec.ofNat 8 (presentFlags chk.isSome objId.isSome), 0, 0]
  | .transferCounts _ _ _ _ _ _ => [5, 0, 0, 0]
  | .recheckFail cause _ _ _ _ recomputed _ =>
    [6, BitVec.ofNat 8 (presentFlags recomputed.isSome false), BitVec.ofNat 8 (causeCode cause), 0]
  | .sweepDone cause _ _ _ _ => [7, 0, BitVec.ofNat 8 (sweepCauseCode cause), 0]
  | .windowApplied _ _ refusal => [8, BitVec.ofNat 8 (presentFlags refusal.isSome false), 0, 0]
  | .windowFenced _ _ => [9, 0, 0, 0]

/-- Bytes 8 to 31 of a record, an absent field as 0. -/
def recordBody : Report → List Byte
  | .startup cpb applied => [cpb, BitVec.ofNat 8 applied] ++ leBytes 22 0
  | .orderDone _ _ tag window ctx value =>
    leBytes 2 tag.toNat ++ [window] ++ leBytes 1 (ctx.elim 0 (·.val)) ++ leBytes 4 (value.getD 0) ++ leBytes 16 0
  | .transferEnd _ ctx win bay number len flags acc =>
    leBytes 1 ctx.val ++ leBytes 1 win.val ++ leBytes 2 bay ++ leBytes 4 number.toNat ++ leBytes 4 (len.getD 0) ++
      leBytes 4 (flags.elim 0 (·.toNat)) ++ leBytes 8 acc
  | .transferIds ctx number chk objId =>
    leBytes 1 ctx.val ++ leBytes 3 0 ++ leBytes 4 number.toNat ++ leBytes 8 (chk.getD 0) ++
      leBytes 8 (objId.elim 0 (·.toNat))
  | .transferCounts ctx newBytes reconBytes strayBytes rejWrites afterEnd =>
    leBytes 1 ctx.val ++ leBytes 3 0 ++ leBytes 4 newBytes ++ leBytes 4 reconBytes ++
      leBytes 4 strayBytes ++ leBytes 4 rejWrites ++ leBytes 4 afterEnd
  | .recheckFail _ ctx win bay number recomputed verified =>
    leBytes 1 ctx.val ++ leBytes 1 win.val ++ leBytes 2 bay ++ leBytes 4 number.toNat ++
      leBytes 8 (recomputed.getD 0) ++ leBytes 8 verified
  | .sweepDone _ win checked failed skipped =>
    leBytes 1 win.val ++ leBytes 1 0 ++ leBytes 2 checked ++ leBytes 2 failed ++ leBytes 2 skipped ++ leBytes 16 0
  | .windowApplied win state refusal =>
    leBytes 1 win.val ++ leBytes 1 (winStateCode state) ++ leBytes 1 (refusal.elim 0 statusCode) ++ leBytes 21 0
  | .windowFenced win strikes => leBytes 1 win.val ++ leBytes 1 strikes ++ leBytes 22 0

/-- The 32 bytes of a record (R175). -/
def recordBytes (r : Record) : List Byte := recordHead r.body ++ leBytes 4 r.seq.toNat ++ recordBody r.body

/-! ### Status blocks -/

/-- The seventeen counters of the engine status block, in its order. -/
def engineCounters (s : State) : List Nat :=
  [s.counters.reconBegun, s.counters.reconCompleted, s.counters.reconFailed, s.counters.reconDetached,
    s.counters.conflictHolds, s.counters.trustedBytes, s.counters.upstreamStalls, s.counters.primingHolds,
    s.counters.partAnswers, s.counters.memErrors, s.counters.fenceHolds, s.counters.fenceReleases,
    s.counters.fenceExpiries, s.counters.fenceFailures, s.counters.fenceRefusals, s.counters.fenceClears,
    s.report.badConsumer]

/-- The sweeper fields, written as 0 while the sweeper is IDLE except the pass counts: bytes 0x1C to 0x2B. -/
def sweeperBytes (s : State) : List Byte :=
  (match s.sweeper.state, s.sweeper.job with
    | .idle, _ => leBytes 10 0
    | _, none => leBytes 10 0
    | st, some j =>
      leBytes 1 (sweepStateCode st) ++ leBytes 1 (sweepModeCode j.mode) ++ leBytes 1 j.win.val ++ leBytes 1 0 ++
        leBytes 2 j.first ++ leBytes 2 j.last ++ leBytes 2 j.current) ++
  leBytes 2 s.sweeper.checked ++ leBytes 2 s.sweeper.failed ++ leBytes 2 s.sweeper.skipped

/-- A lane's four bytes of the engine status block. -/
def laneBytes (s : State) (l : LaneId) : List Byte :=
  leBytes 1 (laneCode (getLane s l)) ++ leBytes 1 (getLane s l).backlog.length ++
    leBytes 2 (if laneCode (getLane s l) = 4 then (getFence s l).elim 0 (·.hold) else 0)

/-- The engine status block, 256 bytes at 0x0100. The engine state byte is 2, RUNNING, the state in which every
status block is written (section 12.2). -/
def engineStatus (s : State) : List Byte :=
  leBytes 1 2 ++ leBytes 1 (if s.report.attnEnable then 1 else 0) ++ leBytes 2 s.time.interval ++
  leBytes 2 s.time.period ++ leBytes 2 s.report.list.length ++ leBytes 4 s.report.snapNumber.toNat ++
  leBytes 4 s.report.seq.toNat ++ leBytes 4 s.report.producer.toNat ++ leBytes 4 s.report.consumer.toNat ++
  leBytes 2 s.pool.level ++ leBytes 2 s.pool.lowest ++ sweeperBytes s ++ leBytes 4 s.serial.toNat ++
  leBytes 2 (freeCount s) ++ leBytes 1 s.orders.slot.val ++ [s.orders.lap] ++ leBytes 12 0 ++
  (engineCounters s).flatMap (leBytes 4) ++ leBytes 60 0 ++ allLanes.flatMap (laneBytes s)

/-- The ten counters of a window, in the order of R37. -/
def winCounterList (c : WinCounters) : List Nat :=
  [c.opened, c.verified, c.failed, c.untracked, c.tableFull, c.straddleWrites, c.straddleReads, c.late, c.rejected,
    c.fenceErrors]

/-- A window status block, 64 bytes at 0x1000 + 64 w. -/
def windowStatus (s : State) (w : WinId) : List Byte :=
  let x := getWin s w
  leBytes 1 w.val ++ leBytes 1 (winStateCode x.state) ++ leBytes 1 (if x.draining then 1 else 0) ++
  leBytes 1 x.strikes ++ leBytes 2 x.bound ++ leBytes 2 0 ++ leBytes 4 s.report.snapNumber.toNat ++
  (winCounterList x.counters).flatMap (leBytes 4) ++ leBytes 12 0

end Sys2Proof.Machine
end

