-- ==== Sys2Proof/Machine/Ops.lean ====
section
/-! DEFINITION. The operations that several commands share, each over the block that owns the state it changes. -/

namespace Sys2Proof.Machine

/-! ### Events of a delivered tick (R142) -/

/-- R142, R144: a context has no event left at the delivered tick: it has taken it, or its count is loaded after it. -/
def ageTaken (s : State) (c : CtxId) : State := modTime s fun t => { t with ctxDue := t.ctxDue.set c.val false c.isLt }

/-- R142, R144: a lane's held read has no event left at the delivered tick: it has taken it, or its count is loaded after
it. -/
def readTaken (s : State) (l : LaneId) : State :=
  modTime s fun t => { t with readDue := t.readDue.set l.val false l.isLt }

/-! ### Memory Port (R176, R177) -/

/-- A request handed over to class 1. -/
def enqueue1 (s : State) (r : MemReq) : State := modPort s fun p => { p with q1 := p.q1 ++ [r] }

/-- A request handed over to class 2. -/
def enqueue2 (s : State) (r : MemReq) : State := modPort s fun p => { p with q2 := p.q2 ++ [r] }

/-- Requests handed over to class 3. -/
def enqueue3 (s : State) (rs : List MemReq) : State := modPort s fun p => { p with q3 := p.q3 ++ rs }

/-- Requests handed over to class 4. -/
def enqueue4 (s : State) (rs : List MemReq) : State := modPort s fun p => { p with q4 := p.q4 ++ rs }

/-- The issued request of this number. -/
def findIssued (s : State) (id : Nat) : Option MemReq :=
  (s.port.outstanding.find? fun o => decide (o.id = id)).map (·.req)

/-- The request of this number is answered and no longer outstanding. -/
def retireIssued (s : State) (id : Nat) : State :=
  modPort s fun p => { p with outstanding := p.outstanding.filter fun o => decide (o.id ≠ id) }

/-- R177: issued requests whose owner gives them up become orphans. -/
def orphanWhere (q : Owner → Bool) (o : Outstanding) : Outstanding :=
  if q o.req.owner then { o with req := { o.req with owner := .orphan } } else o

def Owner.isReconcile : Owner → Bool
  | .reconcile _ => true
  | .forwarded _ => false
  | .record => false
  | .producerWord => false
  | .statusBlock => false
  | .recheck _ => false
  | .loadRead _ => false
  | .loadClear => false
  | .orphan => false

def Owner.isRecheck : Owner → Bool
  | .recheck _ => true
  | .forwarded _ => false
  | .reconcile _ => false
  | .record => false
  | .producerWord => false
  | .statusBlock => false
  | .loadRead _ => false
  | .loadClear => false
  | .orphan => false

def Owner.isForwarded : Owner → Bool
  | .forwarded _ => true
  | .reconcile _ => false
  | .record => false
  | .producerWord => false
  | .statusBlock => false
  | .recheck _ => false
  | .loadRead _ => false
  | .loadClear => false
  | .orphan => false

/-- R108, R109: reconcile reads still waiting are withdrawn, and issued ones become orphans. -/
def dropReconcileReads (s : State) : State :=
  modPort s fun p => { p with q2 := [], outstanding := p.outstanding.map (orphanWhere Owner.isReconcile) }

/-- R157, R158: recheck reads still waiting are withdrawn, and issued ones become orphans. -/
def dropRecheckReads (s : State) : State :=
  modPort s fun p => { p with q4 := [], outstanding := p.outstanding.map (orphanWhere Owner.isRecheck) }

/-! ### Lane Front (chapter 7) -/

/-- R123: a request is forwarded: handed over to class 1 unchanged, with its forwarded record. -/
def forward (s : State) (r : Request) (tracked : Option (CtxId × Word32)) : State :=
  enqueue1 s
    { kind := r.kind, addr := r.addr, count := r.count, data := r.data,
      owner := .forwarded { lane := r.lane, ident := r.ident, kind := r.kind, tracked := tracked } }

/-- R114: a response becomes ready on the upstream link. -/
def respond (s : State) (r : Response) : State := { s with upOut := s.upOut ++ [r] }

/-- R124: the part answers a request itself, ERROR and no data. -/
def answerError (s : State) (r : Request) : State := respond s { lane := r.lane, ident := r.ident, resp := .error }

/-- R119: a lane's head leaves. -/
def clearHead (s : State) (l : LaneId) : State := setLane s l { getLane s l with head := none }

/-- R124: a lane's head is answered ERROR by the part, leaves, and is counted. -/
def partAnswer (s : State) (l : LaneId) (r : Request) : State :=
  modCounters (clearHead (answerError s r) l) fun c => { c with partAnswers := raise c.partAnswers 1 }

/-- R119, R123: a lane's head is forwarded and leaves. -/
def forwardHead (s : State) (l : LaneId) (r : Request) (tracked : Option (CtxId × Word32)) : State :=
  clearHead (forward s r tracked) l

/-- R115: a lane's head is held with a reason. -/
def holdHead (s : State) (l : LaneId) (r : Request) (h : HoldReason) : State :=
  setLane s l { getLane s l with head := some { req := r, standing := .held h } }

/-- R121: a held head that a release sends through a new head event loses its hold reason. -/
def releaseHead (q : Request → HoldReason → Bool) (x : Lane) : Lane :=
  match x.head with
  | some { req := r, standing := .held h } =>
    if q r h then { x with head := some { req := r, standing := .released } } else x
  | some { req := _, standing := .fresh } => x
  | some { req := _, standing := .released } => x
  | none => x

def releaseHeads (s : State) (q : Request → HoldReason → Bool) : State :=
  { s with lanes := s.lanes.map (releaseHead q) }

/-- R7, R52, R120: the heads held with reason PRIMING that touch a bay are released. -/
def releasePriming (s : State) (w : WinId) (bay : Nat) : State :=
  releaseHeads s fun r h => decide (h = .priming) && touchesBay s r w bay

/-- R111: the heads held with reason CONFLICT against a write are released. -/
def releaseConflicts (s : State) (write : Request) : State :=
  releaseHeads s fun r h => decide (h = .conflict) && requestsMeet r write

/-- R118: a head is held with reason PRIMING, and counted (R127). -/
def holdPriming (s : State) (l : LaneId) (r : Request) : State :=
  modCounters (holdHead s l r .priming) fun c => { c with primingHolds := raise c.primingHolds 1 }

/-! ### Report Unit: room and the pending list (R169, R170) -/

/-- R169: records are built, numbered in order, and appended to the pending list. -/
def appendRecords (u : ReportUnit) : List Report → ReportUnit
  | [] => u
  | r :: rest => appendRecords { u with list := u.list ++ [{ seq := u.seq, body := r }], seq := u.seq + 1 } rest

def build (s : State) (rs : List Report) : State := modReport s fun u => appendRecords u rs

/-- R63: the TRANSFER-END group of a context, for a final state. An unbound context has none. -/
def transferGroup (s : State) (c : CtxId) (f : FinalRec) : List Report :=
  let cx := getCtx s c
  match cx.binding with
  | none => []
  | some b =>
    [.transferEnd f c b.win b.bay b.number cx.len cx.tflags cx.acc,
      .transferIds c b.number cx.chk cx.objId,
      .transferCounts c cx.newBytes cx.reconBytes cx.strayBytes cx.rejWrites cx.afterEnd]

/-- R62: the final state that a context's oldest owed report is for. Two owed reports begin with the first. -/
def owedFinal (cx : Context) : Option FinalRec :=
  if cx.owed = 1 then (match cx.second with | some f => some f | none => cx.first) else cx.first

/-- R38: the new state that an apply gives a window: ACTIVE if the definition in force has enable 1, OFF otherwise. A
fencing since the apply does not change it. -/
def appliedState (x : Window) : WinState := if x.defn.isSome then .active else .off

/-- R38: the WINDOW-APPLIED record of a window as its entry stands. -/
def appliedReport (s : State) (w : WinId) : Report := .windowApplied w (appliedState (getWin s w)) none

/-- R38: the WINDOW-FENCED record of a window as its entry stands. -/
def fencedReport (s : State) (w : WinId) : Report := .windowFenced w (getWin s w).strikes

/-- R62: a TRANSFER-END group is handed over: built at once, or owed by its context. -/
def handTransferEnd (s : State) (c : CtxId) (f : FinalRec) : State :=
  if hasRoom s 3 then build s (transferGroup s c f) else modCtx s c fun cx => { cx with owed := cx.owed + 1 }

/-- R38: a WINDOW-APPLIED record is handed over: built at once, or owed by its window. -/
def handApplied (s : State) (w : WinId) : State :=
  if hasRoom s 1 then build s [appliedReport s w] else modWin s w fun x => { x with owedApplied := true }

/-- R38: a WINDOW-FENCED record is handed over: built at once, or owed by its window. -/
def handFenced (s : State) (w : WinId) : State :=
  if hasRoom s 1 then build s [fencedReport s w] else modWin s w fun x => { x with owedFenced := true }

/-- R161: a record of the sweeper is handed over: built at once, or kept as a waiting record. -/
def handSweeper (s : State) (r : Report) : State :=
  if hasRoom s 1 then build s [r] else modSweeper s fun x => { x with waiting := x.waiting ++ [r] }

/-- R166: an ORDER-DONE is handed over: built at once, or the Order Unit's waiting ORDER-DONE. -/
def handOrderDone (s : State) (r : Report) : State :=
  if hasRoom s 1 then build s [r] else modOrders s fun o => { o with waitingDone := some r }

/-- What is owed (R170). -/
inductive OwedItem where
  | applied (w : WinId)
  | fenced (w : WinId)
  | transfer (c : CtxId)
  | sweeper (r : Report)
  | orderDone (r : Report)
  deriving DecidableEq, Repr

/-- R170, step 1: a window's owed record, WINDOW-APPLIED before WINDOW-FENCED. -/
def owedOfWindow (s : State) (w : WinId) : Option OwedItem :=
  if (getWin s w).owedApplied then some (.applied w) else if (getWin s w).owedFenced then some (.fenced w) else none

/-- R170: the first owed item in the grant order. -/
def firstOwed (s : State) : Option OwedItem :=
  match allWins.findSome? (owedOfWindow s) with
  | some i => some i
  | none =>
    match allCtxs.find? fun c => decide (0 < (getCtx s c).owed) with
    | some c => some (.transfer c)
    | none =>
      match s.sweeper.waiting with
      | r :: _ => some (.sweeper r)
      | [] => s.orders.waitingDone.map .orderDone

/-- R170: the places an owed item needs. -/
def OwedItem.size : OwedItem → Nat
  | .applied _ => 1
  | .fenced _ => 1
  | .transfer _ => 3
  | .sweeper _ => 1
  | .orderDone _ => 1

/-- R170: a granted item is built from its producer's state and is owed no longer. -/
def grantItem (s : State) : OwedItem → State
  | .applied w => modWin (build s [appliedReport s w]) w fun x => { x with owedApplied := false }
  | .fenced w => modWin (build s [fencedReport s w]) w fun x => { x with owedFenced := false }
  | .transfer c =>
    modCtx (match owedFinal (getCtx s c) with | some f => build s (transferGroup s c f) | none => s) c
      fun cx => { cx with owed := cx.owed - 1 }
  | .sweeper r => modSweeper (build s [r]) fun x => { x with waiting := x.waiting.tail }
  | .orderDone r => modOrders (build s [r]) fun o => { o with waitingDone := none }

/-- R170: the granting of room, an item at a time until nothing is owed or the first owed item does not fit. An item
takes a place at least, so 32 rounds are enough; the fuel bounds them. -/
def grantRoom : Nat → State → State
  | 0, s => s
  | n + 1, s =>
    match firstOwed s with
    | none => s
    | some i => if s.report.list.length + i.size ≤ Config.pendingMax then grantRoom n (grantItem s i) else s

/-! ### Report Unit: the result ring (R171, R173) -/

/-- R171: the write of a record into its ring slot. -/
def recordWrite (s : State) (r : Record) : MemReq :=
  { kind := .write, addr := pageAddr s (0x2000 + 32 * (s.report.producer.toNat % Config.ringSlots)), count := 32,
    data := recordBytes r, owner := .record }

/-- R171: the write of the producer word. -/
def producerWrite (s : State) : MemReq :=
  { kind := .write, addr := pageAddr s 0x44, count := 4, data := leBytes 4 s.report.producer.toNat,
    owner := .producerWord }

/-- R171, R170: the front record leaves the pending list when it may, its write is handed over, and the room it
leaves is granted. -/
def drain (s : State) : State :=
  match s.report.list with
  | [] => s
  | r :: rest =>
    if mayLeave s then
      grantRoom (Config.pendingMax + 1)
        (enqueue3 (modReport s fun u => { u with list := rest, inFlight := some r }) [recordWrite s r])
    else s

/-- R173: ATTN is evaluated. -/
def evalAttn (s : State) : State := { s with engine := { s.engine with attn := attnLevel s } }

/-- R165: the examination-due flag is set in an event in which the Order Unit becomes able after it was unable. -/
def noteAble (before : Bool) (s : State) : State :=
  if !before && able s then modOrders s fun o => { o with examDue := true } else s

/-- The close of an event of the Report Unit's clients: a record leaves if it may (R171), ATTN is evaluated (R173),
and an Order Unit that has become able is due an examination (R165). `before` is the state before the event. -/
def settle (before s : State) : State := noteAble (able before) (evalAttn (drain s))

/-! ### Recheck Sweeper (chapter 10) -/

/-- R160: the SWEEP-DONE of the sweep, with the pass counts as they stand. -/
def sweepReport (s : State) (cause : SweepCause) (w : WinId) : Report :=
  .sweepDone cause w s.sweeper.checked s.sweeper.failed s.sweeper.skipped

/-- R158: the visit record is removed and its reads are withdrawn or given up. -/
def discardVisit (s : State) : State :=
  match s.sweeper.visit with
  | none => s
  | some _ => modSweeper (dropRecheckReads s) fun x => { x with visit := none }

/-- R159, R160: a sweep is stopped with a SWEEP-DONE, and the sweeper becomes IDLE. -/
def stopSweepFor (s : State) (cause : SweepCause) : State :=
  match s.sweeper.job with
  | none => s
  | some j =>
    let s1 := discardVisit s
    modSweeper (handSweeper s1 (sweepReport s1 cause j.win)) fun x => { x with state := .idle, job := none }

/-- The bay count of a window's definition in force. -/
def bayCount (s : State) (w : WinId) : Nat := (getWin s w).defn.elim 0 (·.count)

/-- R154: the bay after the current one in the order of the pass. -/
def nextBay (s : State) (j : SweepJob) : Nat := if j.current + 1 < bayCount s j.win then j.current + 1 else 0

/-- R154: a visit has ended: the pass goes on, ends the sweep, or begins again. -/
def endVisit (s : State) : State :=
  match s.sweeper.job with
  | none => s
  | some j =>
    if j.current = j.last then
      let s1 := handSweeper s (sweepReport s .passEnd j.win)
      match j.mode with
      | .repeating =>
        modSweeper s1 fun x =>
          { x with checked := 0, failed := 0, skipped := 0, job := some { j with current := j.first } }
      | .once => modSweeper s1 fun x => { x with state := .idle, job := none }
      | .step => modSweeper s1 fun x => { x with state := .idle, job := none }
    else
      modSweeper s fun x =>
        { x with state := (match j.mode with | .step => .waitingStep | .once => .running | .repeating => .running),
                 job := some { j with current := nextBay s j } }

/-- R158: the visit of a context's bay is abandoned, counts as skipped, and the sweep goes on. -/
def abandonVisit (s : State) (c : CtxId) : State :=
  match s.sweeper.visit with
  | none => s
  | some v =>
    if v.ctx = c then endVisit (modSweeper (discardVisit s) fun x => { x with skipped := x.skipped + 1 }) else s

/-! ### Window Decoder (chapter 2) -/

/-- R32, step 5: a sweep of the window is stopped. -/
def stopSweepOf (s : State) (w : WinId) : State :=
  match s.sweeper.job with
  | none => s
  | some j => if j.win = w then stopSweepFor s .windowChanged else s

/-- R32, steps 1 to 4: the entry after a definition is applied. -/
def appliedEntry (x : Window) (t : TakenDef) : Window :=
  { x with
    state := (match t with | .enabled _ => .active | .disabled => .off)
    defn := (match t with | .enabled d => some d | .disabled => none)
    staged := none
    strikes := 0
    counters := WinCounters.zero }

/-- R32: a definition is applied to a window. -/
def applyDef (s : State) (w : WinId) (t : TakenDef) : State := stopSweepOf (modWin s w fun x => appliedEntry x t) w

/-- R33: a staged definition is applied when the bound count has fallen to 0, with a WINDOW-APPLIED record. -/
def drainApply (s : State) (w : WinId) : State :=
  if (getWin s w).bound = 0 then
    match (getWin s w).staged with
    | some t => handApplied (applyDef s w t) w
    | none => s
  else s

/-- R34: the final states that count a strike. -/
def CtxState.strikes : CtxState → Bool
  | .mismatch => true
  | .refused => true
  | .expired => true
  | .lost => true
  | .corrupted => true
  | .verified => false
  | .aborted => false
  | .tainted => false
  | .free => false
  | .priming => false
  | .collecting => false
  | .guard => false

/-- R34: a window's strike count and counters after a final-state notification. -/
def struckEntry (x : Window) (f : CtxState) : Window :=
  if f = .verified then
    { x with strikes := 0, counters := { x.counters with verified := raise x.counters.verified 1 } }
  else if f.strikes then
    { x with strikes := min (x.strikes + 1) 255,
             counters := { x.counters with failed := raise x.counters.failed 1 } }
  else x

/-- R35: an increment has brought an ACTIVE window's strike count to its threshold. -/
def reachesThreshold (x : Window) (f : CtxState) : Bool :=
  f.strikes && decide (x.state = .active) &&
    match x.defn with
    | some d => decide (d.threshold ≠ 0) && decide (d.threshold ≤ x.strikes)
    | none => false

/-- R34, R35: the Transfer Table notifies a window of a final state. -/
def notifyWindow (s : State) (w : WinId) (f : CtxState) : State :=
  let s1 := modWin s w fun x => struckEntry x f
  if reachesThreshold (getWin s1 w) f then handFenced (modWin s1 w fun x => { x with state := .fenced }) w else s1

/-! ### Fence Unit (chapter 8) -/

/-- R135: a held read of a context is forwarded at its verdict. -/
def releaseRead (c : CtxId) (s : State) (l : LaneId) : State :=
  match getFence s l, (getLane s l).head with
  | some f, some h =>
    if f.ctx = c then
      modCounters (setFence (forwardHead s l h.req none) l none) fun k =>
        { k with fenceReleases := raise k.fenceReleases 1 }
    else s
  | _, _ => s

/-- R136: a held read of a context is answered ERROR at another final event. -/
def failRead (c : CtxId) (s : State) (l : LaneId) : State :=
  match getFence s l, (getLane s l).head with
  | some f, some h =>
    if f.ctx = c then
      modCounters (setFence (partAnswer s l h.req) l none) fun k =>
        { k with fenceFailures := raise k.fenceFailures 1 }
    else s
  | _, _ => s

/-- R48, step 5: the Fence Unit is told a transfer's outcome. -/
def fenceOutcome (s : State) (c : CtxId) (f : CtxState) : State :=
  if f = .verified then allLanes.foldl (releaseRead c) s else allLanes.foldl (failRead c) s

/-! ### Reconcile Unit (chapter 6) -/

/-- R106: an ATTACHED slot of a context becomes DETACHED. -/
def detachSlot (c : CtxId) (x : Slot) : Slot :=
  match x with
  | .attached k r => if k = c then .detached r else x
  | .detached _ => x
  | .empty => x

/-- A slot is ATTACHED to a context. -/
def Slot.attachedTo (c : CtxId) : Slot → Bool
  | .attached k _ => decide (k = c)
  | .detached _ => false
  | .empty => false

/-- A slot is ATTACHED. -/
def Slot.isAttached : Slot → Bool
  | .attached _ _ => true
  | .detached _ => false
  | .empty => false

/-- The slots ATTACHED to a context (R101). -/
def attachedCount (s : State) (c : CtxId) : Nat := (s.slots.toList.filter (Slot.attachedTo c)).length

/-- R48, step 4, and R106: every reconcile in flight for a context is detached. -/
def detachSlots (s : State) (c : CtxId) : State :=
  modCounters { s with slots := s.slots.map (detachSlot c) } fun k =>
    { k with reconDetached := raise k.reconDetached (attachedCount s c) }

/-! ### Coverage Unit: the pool (R65, R66) -/

/-- R66: the pool level changes, and the lowest level follows it down. -/
def setPool (s : State) (level : Nat) : State :=
  { s with pool := { level := level, lowest := min s.pool.lowest level } }

/-- R78: a context's list returns to the pool. -/
def returnList (s : State) (c : CtxId) : State :=
  modCtx { s with pool := { s.pool with level := s.pool.level + (getCtx s c).extents.length } } c
    fun cx => { cx with extents := [] }

/-! ### Transfer Table (chapter 3) -/

/-- The window of a bound context. -/
def windowOf (s : State) (c : CtxId) : Option WinId := (getCtx s c).binding.map (·.win)

/-- The definition in force of a bound context's window. -/
def defnOf (s : State) (c : CtxId) : Option WinDef :=
  match windowOf s c with
  | some w => (getWin s w).defn
  | none => none

/-- R48, steps 1 and 2: the context's own entry into its first final state. -/
def finalContext (cx : Context) (f : FinalRec) : Context :=
  { cx with state := f.state, first := some f, idle := none, reconCount := 0 }

/-- R48, step 8, and R51: what a verdict adds to the context. -/
def verdictContext (cx : Context) (f : CtxState) (isolate : Bool) : Context :=
  if f = .verified then { cx with verifiedCheck := some cx.acc }
  else if f = .mismatch then { cx with isolated := isolate }
  else cx

/-- R48: a context enters its first final state. -/
def enterFinal (s : State) (c : CtxId) (f : FinalRec) : State :=
  let s1 := modCtx s c fun cx => finalContext cx f
  let s2 := detachSlots (returnList s1 c) c
  let s3 := fenceOutcome s2 c f.state
  let s4 := match windowOf s3 c with
    | some w => notifyWindow s3 w f.state
    | none => s3
  let s5 := handTransferEnd s4 c f
  modCtx s5 c fun cx => verdictContext cx f.state ((defnOf s5 c).any (·.isolate))

/-- R50: a VERIFIED context takes its second final state. -/
def enterSecond (s : State) (c : CtxId) (f : FinalRec) : State :=
  let s1 := modCtx s c fun cx => { cx with state := f.state, second := some f }
  let s2 := match windowOf s1 c with
    | some w => notifyWindow s1 w f.state
    | none => s1
  handTransferEnd s2 c f

/-- R50, R158: a VERIFIED context becomes TAINTED, and a visit of its bay is abandoned. -/
def taint (s : State) (c : CtxId) (cause : Cause) : State :=
  abandonVisit (enterSecond s c { state := .tainted, cause := cause }) c

/-- R49, R60: a tracking failure makes a COLLECTING context LOST and is discarded in every other state. -/
def loseTransfer (s : State) (c : CtxId) (cause : Cause) : State :=
  if (getCtx s c).state = .collecting then enterFinal s c { state := .lost, cause := cause } else s

/-- R55: a context returns to FREE. -/
def returnToFree (s : State) (c : CtxId) : State :=
  match windowOf s c with
  | none => setCtx s c Context.free
  | some w => drainApply (modWin (setCtx s c Context.free) w fun x => { x with bound := x.bound - 1 }) w

/-! ### Check Unit: the builder (R6 to R8) -/

/-- R6: a ladder build is requested. -/
def requestBuild (b : Builder) (c : CtxId) : Builder :=
  match b.building with
  | none => { b with building := some c }
  | some _ => { b with queue := b.queue ++ [c] }

/-- R7: the builder takes the first context of the queue, or becomes IDLE. -/
def nextBuild (b : Builder) : Builder :=
  match b.queue with
  | [] => { building := none, queue := [] }
  | c :: rest => { building := some c, queue := rest }

/-- R8: a build is abandoned, in progress or in the queue. -/
def abandonBuild (b : Builder) (c : CtxId) : Builder :=
  if b.building = some c then nextBuild b else { b with queue := b.queue.filter fun k => decide (k ≠ c) }

/-! ### Binding (R43) -/

/-- R3: the 64-bit value of a transfer's key: the key field, or the window's default key where it is 0. -/
def chosenKey (d : WinDef) (keyField : Nat) : Nat := if keyField = 0 then d.defaultKey.toNat else keyField

/-- R43: the context that a binding makes. -/
def boundContext (b : Binding) (len : Option Nat) (objId : Option Word64) : Context :=
  { Context.free with state := .priming, binding := some b, len := len, objId := objId }

/-- R43: a context is bound to a pair. `key` is the reduced key. -/
def bindContext (s : State) (c : CtxId) (w : WinId) (bay key : Nat) (len : Option Nat) (objId : Option Word64) : State :=
  let s1 := setCtx { s with serial := s.serial + 1, builder := requestBuild s.builder c } c
    (boundContext { number := s.serial + 1, win := w, bay := bay, key := key } len objId)
  modWin s1 w fun x =>
    { x with bound := x.bound + 1, counters := { x.counters with opened := raise x.counters.opened 1 } }

/-- R61: the transfer number of a context that tracks a write. -/
def trackOf (s : State) (c : CtxId) : Option (CtxId × Word32) := (getCtx s c).binding.map fun b => (c, b.number)

/-! ### The verdict (R89 to R92) -/

/-- R89: the four conditions of the verdict compare. -/
def verdictDue (cx : Context) : Bool :=
  cx.taken.isSome && complete cx.extents cx.len && decide (cx.reconCount = 0) && decide (cx.state = .collecting)

/-- R90: an occasion of the verdict, and the compare of R18 where the four conditions hold. -/
def verdictOccasion (s : State) (c : CtxId) : State :=
  let cx := getCtx s c
  if verdictDue cx then
    if cx.chk = some cx.acc then enterFinal s c { state := .verified, cause := .checkEqual }
    else enterFinal s c { state := .mismatch, cause := .checkUnequal }
  else s

/-! ### Trailers of a bound context (R83 to R87, R94) -/

/-- R86, steps 1 to 6: the trailer is taken. -/
def takenContext (cx : Context) (t : Trailer) : Context :=
  { cx with taken := some t, len := some t.len.toNat, chk := some t.chk.toNat, objId := some t.objId,
            tflags := some t.flags }

/-- R83, R84, R85, R86, R87: a trailer write, or the trailer piece of a row-5 write, taken for a COLLECTING context. -/
def takeTrailer (s : State) (c : CtxId) (t : Touch) (data : List Byte) : State :=
  let s1 := modCtx s c fun cx => { cx with shadow := mergeTrailer cx.shadow t data }
  let cx := getCtx s1 c
  let dec := decodeTrailer t.d.order (shadowBytes cx.shadow)
  match cx.taken with
  | some old => if dec = old then s1 else enterFinal s1 c { state := .lost, cause := .trailerConflict }
  | none =>
    if maskFull cx.shadow then
      match trailerRefusal t.d cx dec with
      | some cause => enterFinal s1 c { state := .refused, cause := cause }
      | none => verdictOccasion (modCtx s1 c fun x => takenContext x dec) c
    else s1

/-- R94: a trailer write into the bay of a VERIFIED context. -/
def rewriteTrailer (s : State) (c : CtxId) (t : Touch) (data : List Byte) : State :=
  let s1 := modCtx s c fun cx => { cx with shadow := mergeTrailer cx.shadow t data }
  let cx := getCtx s1 c
  if cx.taken = some (decodeTrailer t.d.order (shadowBytes cx.shadow)) then s1 else taint s1 c .trailerWrite

/-! ### The shadow (R164) -/

/-- R164: a forwarded write's bytes in software-owned areas are copied into the shadow. A byte in the order ring makes
an examination due, and a byte in the consumer count hands over the four consumer bytes as they then stand. -/
def copyToShadow (s : State) (r : Request) : State :=
  let base := pageBase s
  let skip := base - r.addr.toNat
  let off := r.addr.toNat - base
  let bytes := (r.data.drop skip).take (Config.pageSize - off)
  let m := copyBytes s.orders.shadow off bytes
  let s1 := modOrders s fun o =>
    { o with shadow := m,
             examDue := o.examDue || (decide (0 < bytes.length) && rangesMeet off (off + bytes.length) 0x800 0x1000) }
  if decide (0 < bytes.length) && rangesMeet off (off + bytes.length) 0x40 0x44 then
    modReport s1 fun u => { u with consumerIn := u.consumerIn ++ [BitVec.ofNat 32 (leNat (readBytes m 0x40 4))] }
  else s1

/-! ### Snapshots (R167) -/

/-- R167: the write of a status block, filled with the state as it stands. Block 0 is the engine's, block n + 1 that
of window n. -/
def blockWrite (s : State) (n : Nat) : MemReq :=
  match n with
  | 0 => { kind := .write, addr := pageAddr s 0x100, count := 256, data := engineStatus s, owner := .statusBlock }
  | k + 1 =>
    { kind := .write, addr := pageAddr s (0x1000 + 64 * k), count := 64,
      data := (if h : k < 16 then windowStatus s ⟨k, h⟩ else []), owner := .statusBlock }

/-- R167: a block is handed over. -/
def handBlock (s : State) (n : Nat) : State :=
  let s1 := modReport s fun u => { u with snapWriting := some n }
  enqueue3 s1 [blockWrite s1 n]

/-- R167: a new snapshot begins with block 0. -/
def beginSnapshot (s : State) : State := handBlock (modReport s fun u => { u with snapNumber := u.snapNumber + 1 }) 0

/-- R167: a snapshot is requested. -/
def requestSnapshot (s : State) : State :=
  match s.report.snapWriting with
  | none => beginSnapshot s
  | some _ => modReport s fun u => { u with snapRepeat := true }

/-! ### Entry to HALTED (R181) -/

/-- R129: a held head is disposed of at the entry to HALTED. -/
def haltHead (s : State) (l : LaneId) : State :=
  match (getLane s l).head with
  | some { req := r, standing := .held .fence } => clearHead (answerError s r) l
  | some { req := r, standing := .held .priming } => forwardHead s l r none
  | some { req := r, standing := .held .reconcile } => forwardHead s l r none
  | some { req := r, standing := .held .conflict } => forwardHead s l r none
  | some { req := _, standing := .fresh } => s
  | some { req := _, standing := .released } => s
  | none => s

/-- R181: engine requests still waiting are withdrawn, and issued ones become orphans. -/
def haltPort (p : Port) : Port :=
  { p with q2 := [], q3 := [], q4 := [], outstanding := p.outstanding.map (orphanWhere fun o => !o.isForwarded) }

/-- R181: the entry to HALTED. -/
def enterHalted (s : State) : State :=
  let s1 := allLanes.foldl haltHead s
  { s1 with
    engine := { s1.engine with state := .halted, attn := false, faultN := false, load := .idle }
    port := haltPort s1.port
    builder := { building := none, queue := [] }
    slots := Vector.replicate 16 Slot.empty
    fence := Vector.replicate 16 none
    time := { s1.time with running := false }
    sweeper := { s1.sweeper with visit := none, waiting := [] } }

end Sys2Proof.Machine
end

