-- ==== Sys2Proof/Machine/Aging.lean ====
section
/-! DEFINITION. The Time Base and the counts it ages (chapter 9): MICROSECOND_STEP, TICK, IDLE_COUNT_END, GUARD_END,
HOLD_COUNT_END, SETTINGS_ADOPT, SNAPSHOT_COUNTDOWN_END. -/

namespace Sys2Proof.Machine

/-- R142: the microsecond count is raised by one, and returns to 0 with a tick when it reaches T. A count that an adopted
smaller T finds at or above it reaches it at the next step (R143, log entry 33). -/
def raiseMicros (t : TimeBase) : TimeBase :=
  if t.interval ≤ t.micros + 1 then { t with micros := 0, prescaler := 0, ticksDue := t.ticksDue + 1 }
  else { t with micros := t.micros + 1, prescaler := 0 }

/-- R141, R142: the prescaler runs out. It does not advance while the Time Base is STOPPED. -/
def execMicrosecondStep (s : State) : Host.Outcome State Fault Refusal :=
  if s.time.running then .next (modTime s raiseMicros) else .next s

/-- R141: one REFCLK period passes: the 100th is a microsecond step. It is what the block does on an empty queue. -/
def refclkPeriod (t : TimeBase) : TimeBase :=
  if t.running then
    if Config.refclkPerMicrosecond ≤ t.prescaler + 1 then raiseMicros t else { t with prescaler := t.prescaler + 1 }
  else t

/-- R142, R146, R148, R149: a tick is delivered to the Transfer Table, the Fence Unit and the Time Base: every context
that is COLLECTING or in GUARD, every held read and the Time Base has its own event to take, in any order with one another
and with any other event. A tick is delivered when no event of the tick before it would still change a count (log
entry 8). -/
def deliverTick (s : State) : State :=
  modTime s fun t =>
    { t with ticksDue := t.ticksDue - 1, ctxDue := s.ctxs.map fun c => c.state.ages,
             readDue := s.fence.map Option.isSome, tickOpen := true }

/-- R142: a tick. -/
def execTick (s : State) : Host.Outcome State Fault Refusal :=
  if s.time.running ∧ 0 < s.time.ticksDue ∧ tickUnfinished s = false then .next (deliverTick s) else .next s

/-- R146: a COLLECTING context's idle count is lowered, and one that reaches 0 makes its transfer EXPIRED. -/
def ageIdle (s : State) (c : CtxId) : State :=
  match (getCtx s c).idle with
  | some (n + 2) => modCtx s c fun x => { x with idle := some (n + 1) }
  | some 1 => settle s (enterFinal s c { state := .expired, cause := .idle })
  | some 0 => settle s (enterFinal s c { state := .expired, cause := .idle })
  | none => s

/-- R148: a GUARD context's guard count is lowered, and one that reaches 0 returns it to FREE. -/
def ageGuard (s : State) (c : CtxId) : State :=
  match (getCtx s c).guardCount with
  | some (n + 2) => modCtx s c fun x => { x with guardCount := some (n + 1) }
  | some 1 => settle s (returnToFree s c)
  | some 0 => settle s (returnToFree s c)
  | none => s

/-- R142, R146, R147: the aging of a context at the delivered tick, where it is COLLECTING. The event of a context in
GUARD is GUARD_END; one that has lost its count since the tick finds nothing to lower (R60), and its event is only
taken. -/
def execIdleCountEnd (c : CtxId) (s : State) : Host.Outcome State Fault Refusal :=
  if s.engine.state = .running ∧ ctxDue s c then
    match (getCtx s c).state with
    | .collecting => .next (ageIdle (ageTaken s c) c)
    | .guard => .next s
    | .free => .next (ageTaken s c)
    | .priming => .next (ageTaken s c)
    | .verified => .next (ageTaken s c)
    | .mismatch => .next (ageTaken s c)
    | .refused => .next (ageTaken s c)
    | .expired => .next (ageTaken s c)
    | .lost => .next (ageTaken s c)
    | .aborted => .next (ageTaken s c)
    | .tainted => .next (ageTaken s c)
    | .corrupted => .next (ageTaken s c)
  else .next s

/-- R142, R148: the aging of a context at the delivered tick, where it is in GUARD. -/
def execGuardEnd (c : CtxId) (s : State) : Host.Outcome State Fault Refusal :=
  if s.engine.state = .running ∧ ctxDue s c ∧ (getCtx s c).state = .guard then .next (ageGuard (ageTaken s c) c)
  else .next s

/-- R134: a held read whose count the tick ends is answered ERROR, as a fence expiry. -/
def expireRead (s : State) (l : LaneId) (r : Request) (w : WinId) : State :=
  modCounters
    (modWinCounters (setFence (partAnswer s l r) l none) w fun k => { k with fenceErrors := raise k.fenceErrors 1 })
    fun k => { k with fenceExpiries := raise k.fenceExpiries 1 }

/-- R134, R149: a held read's count is lowered, and one that reaches 0 ends the hold. -/
def ageRead (s : State) (l : LaneId) (r : Request) (f : FenceRec) : State :=
  if 2 ≤ f.hold then setFence s l (some { f with hold := f.hold - 1 }) else expireRead s l r f.win

/-- R134, R142: the aging of a lane's held read at the delivered tick. A lane whose read has ended since the tick
finds nothing to lower (R137). -/
def execHoldCountEnd (l : LaneId) (s : State) : Host.Outcome State Fault Refusal :=
  if s.engine.state = .running ∧ readDue s l then
    match getFence s l, (getLane s l).head with
    | some f, some h => .next (ageRead (readTaken s l) l h.req f)
    | _, _ => .next (readTaken s l)
  else .next s

/-- R143: pending settings become those in force. -/
def adoptedTime (t : TimeBase) (v : Settings) : TimeBase :=
  { t with interval := v.interval, period := v.period, countdown := (if v.period = 0 then none else some v.period),
           pendingSettings := none, tickOpen := false }

/-- R143: the Time Base's event at a tick that finds pending settings. How long after the tick it comes is left open: a
microsecond step taken between is counted against the old T (log entry 33). -/
def execSettingsAdopt (s : State) : Host.Outcome State Fault Refusal :=
  match s.engine.state, s.time.tickOpen, s.time.pendingSettings with
  | .running, true, some v =>
    .next (settle s (modReport (modTime s fun t => adoptedTime t v) fun u => { u with attnEnable := v.attn }))
  | _, _, _ => .next s

/-- R150: the snapshot countdown is lowered, and one that reaches 0 is loaded again and requests a snapshot. -/
def ageCountdown (s : State) : State :=
  match s.time.countdown with
  | some (n + 2) => modTime s fun t => { t with countdown := some (n + 1) }
  | some 1 => requestSnapshot (modTime s fun t => { t with countdown := some t.period })
  | some 0 => requestSnapshot (modTime s fun t => { t with countdown := some t.period })
  | none => s

/-- R142, R150: the Time Base's event at the delivered tick, where it adopts no settings. -/
def execSnapshotCountdownEnd (s : State) : Host.Outcome State Fault Refusal :=
  match s.engine.state, s.time.tickOpen, s.time.pendingSettings with
  | .running, true, none => .next (ageCountdown (modTime s fun t => { t with tickOpen := false }))
  | _, _, _ => .next s

end Sys2Proof.Machine
end

