-- ==== Sys2Proof/Machine/Lanes.lean ====
section
/-! DEFINITION. The Lane Front and the Memory Port: REQUEST_ARRIVAL, HEAD_EVENT, RESPONSE_RELAY, MEMORY_ISSUE,
ORPHAN_RESPONSE. -/

namespace Sys2Proof.Machine

/-! ### Lane records (R115, R116, R119) -/

/-- R119: the first request of the backlog becomes the head, awaiting its head event. -/
def moveUp (x : Lane) : Lane :=
  match x.backlog with
  | [] => x
  | r :: rest => { head := some { req := r, standing := .fresh }, backlog := rest }

/-- R116: a request is appended to the end of its lane's backlog. -/
def appendBacklog (x : Lane) (r : Request) : Lane := { x with backlog := x.backlog ++ [r] }

/-! ### HEAD_EVENT: taking a write (R57, R58, R73, R74) -/

/-- R145: the idle count is reloaded by a taken write. -/
def reloadIdle (s : State) (c : CtxId) (d : WinDef) : State :=
  modCtx s c fun cx => { cx with idle := some d.idleLimit }

/-- R99: a taken write is refused under REJECT. -/
def refuseWrite (s : State) (l : LaneId) (r : Request) (t : Touch) (c : CtxId) : State :=
  partAnswer
    (modWinCounters (modCtx s c fun cx => { cx with rejWrites := raise cx.rejWrites 1 }) t.win
      fun k => { k with rejected := raise k.rejected 1 }) l r

/-- R71: the cause for which an insertion cannot be made. -/
def insertionFailure (s : State) (c : CtxId) (d : WinDef) (e f : Nat) : Option Cause :=
  let list := (getCtx s c).extents
  if meetCount e f list = 0 then
    if d.budget ≤ list.length then some .extentBudget else if s.pool.level = 0 then some .poolEmpty else none
  else none

/-- R70, R66, R73 step 4: the new pieces of [e, f) are inserted. -/
def insertPieces (s : State) (c : CtxId) (e f : Nat) : State :=
  let list := (getCtx s c).extents
  modCtx (setPool s (s.pool.level + meetCount e f list - 1)) c fun cx => { cx with extents := insertRange e f list }

/-- R73, steps 5 and 6: the context's counters, and the new pieces' contributions. -/
def accountWrite (cx : Context) (off : Nat) (data : List Byte) (v : Division) : Context :=
  { cx with newBytes := raise cx.newBytes (totalLength v.fresh), strayBytes := raise cx.strayBytes v.stray,
            acc := addPieces (cx.ladder.getD []) off data v.fresh cx.acc }

/-- The span of a write's overlapped pieces (R101). -/
def spanOf (ps : List Extent) : Extent :=
  { start := (ps.head?.map (·.start)).getD 0, stop := (ps.getLast?.map (·.stop)).getD 0 }

/-- R102: a reconcile begins: the slot is ATTACHED, the write held, and the read of the span handed over. -/
def beginReconcile (s : State) (l : LaneId) (r : Request) (t : Touch) (c : CtxId) (ps : List Extent) : State :=
  let span := spanOf ps
  let s1 := setSlot s l (.attached c { write := r, offset := t.lo, pieces := ps, span := span, standing := .waiting })
  let s2 := holdHead (modCtx s1 c fun cx => { cx with reconCount := cx.reconCount + 1 }) l r .reconcile
  let s3 := enqueue2 s2
    { kind := .read, addr := BitVec.ofNat 40 (t.d.bayBase t.bay + span.start), count := span.stop - span.start,
      data := [], owner := .reconcile l }
  modCounters s3 fun k => { k with reconBegun := raise k.reconBegun 1 }

/-- R73, step 7, and R98: the write is forwarded, trusted or held by the window's overlap policy. -/
def applyPolicy (s : State) (l : LaneId) (r : Request) (t : Touch) (c : CtxId) (ps : List Extent) : State :=
  if ps.isEmpty then forwardHead s l r (trackOf s c)
  else
    match t.d.overlap with
    | .reconcile => beginReconcile s l r t c ps
    | .trust =>
      modCounters (forwardHead s l r (trackOf s c)) fun k =>
        { k with trustedBytes := raise k.trustedBytes (totalLength ps) }
    | .reject => refuseWrite s l r t c

/-- R74: the trailer piece of a row-5 write is taken if the transfer is still COLLECTING. -/
def takeTrailerPiece (s : State) (c : CtxId) (t : Touch) (data : List Byte) : State :=
  if t.hasTrailer && decide ((getCtx s c).state = .collecting) then takeTrailer s c t data else s

/-- R73, R74: the work on the payload bytes of a taken write, and the trailer piece of a row-5 write. -/
def takePayload (s : State) (l : LaneId) (r : Request) (t : Touch) (c : CtxId) : State :=
  let cx := getCtx s c
  let v := divide cx.extents cx.len t.lo (min t.hi t.d.capacity - t.lo)
  if t.d.overlap = .reject ∧ v.overlap ≠ [] then refuseWrite s l r t c
  else if v.fresh = [] then
    let s1 := modCtx s c fun x => accountWrite x t.lo r.data v
    takeTrailerPiece (applyPolicy s1 l r t c v.overlap) c t r.data
  else
    match insertionFailure s c t.d t.lo v.stop with
    | some cause => enterFinal (forwardHead s l r (trackOf s c)) c { state := .lost, cause := cause }
    | none =>
      let s1 := modCtx (insertPieces s c t.lo v.stop) c fun x => accountWrite x t.lo r.data v
      verdictOccasion (takeTrailerPiece (applyPolicy s1 l r t c v.overlap) c t r.data) c

/-- R57, R58: a write taken by a COLLECTING transfer. -/
def takeWrite (s : State) (l : LaneId) (r : Request) (t : Touch) (c : CtxId) : State :=
  let s1 := reloadIdle s c t.d
  if t.hasPayload then takePayload s1 l r t c
  else takeTrailer (forwardHead s1 l r (trackOf s1 c)) c t r.data

/-! ### HEAD_EVENT: writes and reads of one bay (R46, R57 to R59) -/

/-- R46: a write into an unbound bay opens a transfer, or is forwarded untracked and counted. -/
def writeUnbound (s : State) (l : LaneId) (r : Request) (t : Touch) : State :=
  let w := getWin s t.win
  if w.state = .active ∧ w.draining = false ∧ t.d.autoOpen = true then
    match lowestFree s with
    | some c => holdPriming (bindContext s c t.win t.bay (reduce (chosenKey t.d 0)) none none) l r
    | none =>
      modWinCounters (forwardHead s l r none) t.win fun k => { k with tableFull := raise k.tableFull 1 }
  else modWinCounters (forwardHead s l r none) t.win fun k => { k with untracked := raise k.untracked 1 }

/-- R57, R58: a write into a bound bay that is not isolated, by the state of its transfer. -/
def writeBound (s : State) (l : LaneId) (r : Request) (t : Touch) (c : CtxId) : State :=
  match (getCtx s c).state with
  | .free => forwardHead s l r none
  | .priming => holdPriming s l r
  | .collecting => takeWrite s l r t c
  | .verified =>
    if t.hasPayload then taint (forwardHead s l r none) c .payloadWrite
    else rewriteTrailer (forwardHead s l r none) c t r.data
  | .guard =>
    modWinCounters (forwardHead s l r none) t.win fun k => { k with late := raise k.late 1 }
  | .mismatch => countAfterEnd
  | .refused => countAfterEnd
  | .expired => countAfterEnd
  | .lost => countAfterEnd
  | .aborted => countAfterEnd
  | .tainted => countAfterEnd
  | .corrupted => countAfterEnd
where
  /-- R57, R58: in a final state a payload write is an after-end write, and a trailer write is ignored. -/
  countAfterEnd : State :=
    if t.hasPayload then
      modCtx (forwardHead s l r none) c fun cx => { cx with afterEnd := raise cx.afterEnd 1 }
    else forwardHead s l r none

/-- R25, R57, R58: a write of one bay. One that carries only trailer bytes 32 to 63 changes nothing. -/
def writeBay (s : State) (l : LaneId) (r : Request) (t : Touch) : State :=
  if bayIsolated s t.win t.bay then partAnswer s l r
  else if !t.significant then forwardHead s l r none
  else
    match lookup s t.win t.bay with
    | none => writeUnbound s l r t
    | some c => writeBound s l r t c

/-- R133, R134: a read is held for FENCE. A tick delivered before its head event does not lower its hold count. -/
def holdRead (s : State) (l : LaneId) (r : Request) (t : Touch) (c : CtxId) : State :=
  modCounters
    (setFence (readTaken (holdHead s l r .fence) l) l
      (some { win := t.win, bay := t.bay, ctx := c, hold := t.d.holdLimit }))
    fun k => { k with fenceHolds := raise k.fenceHolds 1 }

/-- R132: a read is refused by the fence in its head event. -/
def refuseRead (s : State) (l : LaneId) (r : Request) : State :=
  modCounters (partAnswer s l r) fun k => { k with fenceRefusals := raise k.fenceRefusals 1 }

/-- R59, R132: a payload read of a FENCE window whose bay is not isolated. -/
def fencedRead (s : State) (l : LaneId) (r : Request) (t : Touch) : State :=
  match lookup s t.win t.bay with
  | none => refuseRead s l r
  | some c =>
    match (getCtx s c).state with
    | .priming => holdRead s l r t c
    | .collecting => holdRead s l r t c
    | .verified => forwardHead s l r none
    | .free => refuseRead s l r
    | .mismatch => refuseRead s l r
    | .refused => refuseRead s l r
    | .expired => refuseRead s l r
    | .lost => refuseRead s l r
    | .aborted => refuseRead s l r
    | .tainted => refuseRead s l r
    | .corrupted => refuseRead s l r
    | .guard => refuseRead s l r

/-- R59: a read of one bay. -/
def readBay (s : State) (l : LaneId) (r : Request) (t : Touch) : State :=
  if bayIsolated s t.win t.bay then partAnswer s l r
  else if t.hasPayload && decide (t.d.readPolicy = .fence) then fencedRead s l r t
  else forwardHead s l r none

/-! ### HEAD_EVENT: straddling requests (R26, R27) -/

/-- R26: a counter of each window that a request has a byte in is raised once. -/
def countWindows (s : State) (ts : List Touch) (f : WinCounters → WinCounters) : State :=
  allWins.foldl (fun x w => if ts.any (fun t => decide (t.win = w)) then modWinCounters x w f else x) s

def countStraddleWrite (s : State) (ts : List Touch) : State :=
  countWindows s ts fun k => { k with straddleWrites := raise k.straddleWrites 1 }

def countStraddleRead (s : State) (ts : List Touch) : State :=
  countWindows s ts fun k => { k with straddleReads := raise k.straddleReads 1 }

/-- R26, step 3: a touched bay's transfer is treated by its state. -/
def straddleTouch (s : State) (t : Touch) : State :=
  match lookup s t.win t.bay with
  | none => s
  | some c =>
    match (getCtx s c).state with
    | .free => s
    | .priming => s
    | .collecting => enterFinal s c { state := .lost, cause := .straddle }
    | .verified => taint s c .straddle
    | .guard => modWinCounters s t.win fun k => { k with late := raise k.late 1 }
    | .mismatch => countAfterEnd c
    | .refused => countAfterEnd c
    | .expired => countAfterEnd c
    | .lost => countAfterEnd c
    | .aborted => countAfterEnd c
    | .tainted => countAfterEnd c
    | .corrupted => countAfterEnd c
where
  /-- R26: the after-end write is counted in the context. -/
  countAfterEnd (c : CtxId) : State := modCtx s c fun cx => { cx with afterEnd := raise cx.afterEnd 1 }

/-- The touched bays in the order they are treated: one bay as it is, and two by a free choice (log entry 13). The order
decides that of their records, of the strikes they count, and of the answers to the reads held on them. -/
def straddleOrder (s : State) (ts : List Touch) : State × List Touch :=
  if 2 ≤ ts.length then
    ({ s with choices := s.choices + 1 }, if Config.straddleHighFirst s.choices then ts.reverse else ts)
  else (s, ts)

/-- R26: a STRADDLE write. Where it makes the transfers of two bays LOST, the reads held for FENCE on them are answered
ERROR bay by bay in the order of the treatment, and in increasing lane number within a bay: R136 gives them no order, and
this one is the model's choice (log entries 13 and 14). -/
def straddleWrite (s : State) (l : LaneId) (r : Request) (ts : List Touch) : State :=
  let touched := ts.filter Touch.significant
  if ts.any fun t => bayIsolated s t.win t.bay then countStraddleWrite (partAnswer s l r) ts
  else if touched.any fun t => decide (bayState s t.win t.bay = some .priming) then holdPriming s l r
  else
    let x := straddleOrder (countStraddleWrite (copyToShadow (forwardHead s l r none) r) ts) touched
    x.2.foldl straddleTouch x.1

/-- R27: a STRADDLE read. -/
def straddleRead (s : State) (l : LaneId) (r : Request) (ts : List Touch) : State :=
  if ts.any fun t => bayIsolated s t.win t.bay then countStraddleRead (partAnswer s l r) ts
  else countStraddleRead (forwardHead s l r none) ts

/-! ### HEAD_EVENT -/

/-- R118, steps 2 and 3: a request is classified and treated by its class. -/
def treatClass (s : State) (l : LaneId) (r : Request) : State :=
  match classify s r, r.kind with
  | .control, .read => forwardHead s l r none
  | .control, .write => copyToShadow (forwardHead s l r none) r
  | .outside, _ => forwardHead s l r none
  | .straddle ts, .write => straddleWrite s l r ts
  | .straddle ts, .read => straddleRead s l r ts
  | .payload t, .write => writeBay s l r t
  | .trailer t, .write => writeBay s l r t
  | .both t, .write => writeBay s l r t
  | .payload t, .read => readBay s l r t
  | .trailer t, .read => readBay s l r t
  | .both t, .read => readBay s l r t

/-- R118: the treatment of a lane's head while RUNNING: the conflict test, then the class. -/
def treatHead (s : State) (l : LaneId) (r : Request) : State :=
  if conflicts s l r then
    modCounters (holdHead s l r .conflict) fun k => { k with conflictHolds := raise k.conflictHolds 1 }
  else treatClass s l r

/-! ### REQUEST_ARRIVAL (R116, R117) -/

/-- R116, R117: a request accepted onto its lane, or the stall it begins. A lane without a head and with a backlog of 8
moves up first, so that no backlog passes 8 (log entry 6). -/
def acceptOnto (s : State) (r : Request) : State :=
  let x := getLane s r.lane
  match x.head with
  | none =>
    if x.backlog.isEmpty then setLane s r.lane { x with head := some { req := r, standing := .fresh } }
    else if x.backlog.length < Config.backlogMax then setLane s r.lane (appendBacklog x r)
    else setLane s r.lane (appendBacklog (moveUp x) r)
  | some _ =>
    if x.backlog.length < Config.backlogMax then setLane s r.lane (appendBacklog x r)
    else
      modCounters { s with stall := some { lane := r.lane, waiting := r } } fun c =>
        { c with upstreamStalls := raise c.upstreamStalls 1 }

/-- R116: a request accepted while RUNNING. Only a head that is held or released stalls the link: one that still awaits
its first head event before a full backlog is treated by it first, and the arrival then meets what that leaves (log
entry 6). -/
def acceptRunning (s : State) (r : Request) : State :=
  match (getLane s r.lane).head with
  | some { req := q, standing := .fresh } =>
    if (getLane s r.lane).backlog.length < Config.backlogMax then acceptOnto s r
    else acceptOnto (settle s (treatHead s r.lane q)) r
  | some { req := _, standing := .held _ } => acceptOnto s r
  | some { req := _, standing := .released } => acceptOnto s r
  | none => acceptOnto s r

/-- R129, R130: a request accepted in HALTED or BYPASSED, where no stall arises: a head that finds the backlog full is
forwarded by its head event before the arrival (log entry 6). -/
def acceptPassing (s : State) (r : Request) : State :=
  match (getLane s r.lane).head with
  | some h =>
    if (getLane s r.lane).backlog.length < Config.backlogMax then acceptOnto s r
    else acceptOnto (forwardHead s r.lane h.req none) r
  | none => acceptOnto s r

/-- R116, R117, R130: a request is offered on the upstream link. In RESET and LOADING, and while the link is stalled,
it is not accepted and stays on the link side, which offers it again. -/
def execRequestArrival (r : Request) (s : State) : Host.Outcome State Fault Refusal :=
  if r.wf then
    if s.stall.isSome then .next s
    else
      match s.engine.state with
      | .reset => .next s
      | .loading => .next s
      | .running => .next (acceptRunning s r)
      | .halted => .next (acceptPassing s r)
      | .bypassed => .next (acceptPassing s r)
  else .refused .illFormedRequest

/-! ### A lane's event -/

/-- R117: a stall ends when its lane's backlog has fallen below 8, and its waiting request is accepted first. -/
def endStall (s : State) (l : LaneId) : State :=
  match s.stall with
  | none => s
  | some st =>
    if st.lane = l ∧ (getLane s l).backlog.length < Config.backlogMax then
      setLane { s with stall := none } l (appendBacklog (getLane s l) st.waiting)
    else s

/-- R118, R129, R130: the treatment of a head that awaits its head event. In HALTED and BYPASSED it is forwarded
unchanged. -/
def headTreated (s : State) (l : LaneId) (r : Request) : State :=
  match s.engine.state with
  | .running => settle s (treatHead s l r)
  | .halted => forwardHead s l r none
  | .bypassed => forwardHead s l r none
  | .reset => s
  | .loading => s

/-- R118, R119: a lane's event: the first request of its backlog becomes the head where there is none, or the head that
awaits its first or its new head event is treated. -/
def execHeadEvent (l : LaneId) (s : State) : Host.Outcome State Fault Refusal :=
  let x := getLane s l
  match x.head with
  | none => if x.backlog.isEmpty then .next s else .next (endStall (setLane s l (moveUp x)) l)
  | some { req := r, standing := .fresh } => .next (headTreated s l r)
  | some { req := r, standing := .released } => .next (headTreated s l r)
  | some { req := _, standing := .held _ } => .next s

/-! ### RESPONSE_RELAY (R124, R125) -/

/-- R114: the data an OKAY response carries is the READ's byte count, and nothing for a WRITE. -/
def respFits (m : MemReq) (resp : MemResp) : Bool :=
  match resp, m.kind with
  | .error, _ => true
  | .okay d, .read => decide (d.length = m.count)
  | .okay d, .write => d.isEmpty

/-- R61, R125: the memory-error event of a tracked write reaches the context only while it holds the transfer number
and is COLLECTING. -/
def memoryError (s : State) (tracked : Option (CtxId × Word32)) : State :=
  match tracked with
  | none => s
  | some (c, n) =>
    if ((getCtx s c).binding.map (·.number)) = some n then loseTransfer s c .memoryError else s

/-- R124, R125, R129, R130: a forwarded request's response is relayed. An ERROR is counted, and reaches the tracked
transfer, only while RUNNING. -/
def execResponseRelay (id : Nat) (resp : MemResp) (s : State) : Host.Outcome State Fault Refusal :=
  match findIssued s id with
  | some { owner := .forwarded f, kind := k, addr := a, count := n, data := d } =>
    if respFits { owner := .forwarded f, kind := k, addr := a, count := n, data := d } resp then
      let s1 := respond (retireIssued s id) { lane := f.lane, ident := f.ident, resp := resp }
      match resp with
      | .okay _ => .next s1
      | .error =>
        if isRunning s then
          .next (settle s
            (memoryError (modCounters s1 fun c => { c with memErrors := raise c.memErrors 1 }) f.tracked))
        else .next s1
    else .fault .responseLength
  | _ => .next s

/-! ### MEMORY_ISSUE and ORPHAN_RESPONSE (R176, R177) -/

/-- R103: an issued reconcile read's standing. -/
def markSlot (x : Slot) : Slot :=
  match x with
  | .attached c r => .attached c { r with standing := .issued }
  | .detached r => .detached { r with standing := .issued }
  | .empty => x

/-- R156: an issued recheck read's standing. -/
def markVisit (off : Nat) (v : Visit) : Visit :=
  { v with reads := v.reads.map fun x => if x.off = off then { x with standing := .issued } else x }

/-- R103, R156: the owner of an issued engine read notes its standing. -/
def noteIssue (s : State) (o : Owner) : State :=
  match o with
  | .reconcile l => setSlot s l (markSlot (getSlot s l))
  | .recheck off => modSweeper s fun x => { x with visit := x.visit.map (markVisit off) }
  | .forwarded _ => s
  | .record => s
  | .producerWord => s
  | .statusBlock => s
  | .loadRead _ => s
  | .loadClear => s
  | .orphan => s

/-- R176: the first request of the lowest-numbered class whose queue is not empty, and the port without it. -/
def arbitrate (p : Port) : Option (MemReq × Port) :=
  match p.q1, p.q2, p.q3, p.q4 with
  | r :: rest, _, _, _ => some (r, { p with q1 := rest })
  | [], r :: rest, _, _ => some (r, { p with q2 := rest })
  | [], [], r :: rest, _ => some (r, { p with q3 := rest })
  | [], [], [], r :: rest => some (r, { p with q4 := rest })
  | [], [], [], [] => none

/-- R176, R177: a request is issued, under the next number, and its owner is kept until its response. -/
def execMemoryIssue (s : State) : Host.Outcome State Fault Refusal :=
  match arbitrate s.port with
  | none => .next s
  | some (r, p) =>
    .next (noteIssue
      { s with port := { p with outstanding := p.outstanding ++ [{ id := p.nextId, req := r }],
                                nextId := p.nextId + 1 } } r.owner)

/-- R177: the response to a request whose owner gave it up is discarded. -/
def execOrphanResponse (id : Nat) (_resp : MemResp) (s : State) : Host.Outcome State Fault Refusal :=
  match findIssued s id with
  | some { owner := .orphan, .. } => .next (retireIssued s id)
  | _ => .next s

end Sys2Proof.Machine
end

