-- ==== Sys2Proof/Machine/Orders.lean ====
section
/-! DEFINITION. The Order Unit: ORDER_EXAMINATION, the eleven orders, UNKNOWN_ORDER, and CONSUMER_VALUE_WRITTEN. -/

namespace Sys2Proof.Machine

/-! ### What an order does: the state after its effects and the ORDER-DONE it reports (R166) -/

/-- The status, context number and value of an ORDER-DONE (R166, R175). -/
structure Done where
  status : Status
  ctx    : Option CtxId
  value  : Option Nat
  deriving DecidableEq, Repr

/-- An ORDER-DONE that carries its status alone. -/
def plain (st : Status) : Done := { status := st, ctx := none, value := none }

/-- R31: an accepted definition is applied at once, or staged. -/
def placeDefinition (s : State) (w : WinId) (t : TakenDef) : State × Done :=
  if (getWin s w).state = .off ∨ (getWin s w).bound = 0 then (applyDef s w t, plain .done)
  else (modWin s w fun x => { x with staged := some t }, plain .staged)

/-- SET-WINDOW (R31, R21, R22). -/
def orderSetWindow (o : Order) (s : State) : State × Done :=
  match o.window with
  | none => (s, plain .badWindow)
  | some w =>
    let t := takeDefinition (windowEntry s w)
    match validate s w t, t with
    | some r, _ => (s, plain r)
    | none, some d => placeDefinition s w d
    | none, none => (s, plain .range)

/-- RELEASE (R36). -/
def orderRelease (o : Order) (s : State) : State × Done :=
  match o.window with
  | none => (s, plain .badWindow)
  | some w =>
    if (getWin s w).state = .fenced then
      (modWin s w fun x => { x with state := .active, strikes := 0 }, plain .done)
    else (s, plain .notFenced)

/-- OPEN's checks 4 to 8, and the binding (R44, R45). -/
def openBay (o : Order) (s : State) (w : WinId) (d : WinDef) : State × Done :=
  let key := reduce (chosenKey d o.key)
  if d.count ≤ o.bay then (s, plain .badBay)
  else if (lookup s w o.bay).isSome then (s, plain .alreadyBound)
  else if weakKey key then (s, plain .keyWeak)
  else if o.length.any fun n => decide (d.capacity < n) then (s, plain .range)
  else
    match lowestFree s with
    | none => (s, plain .tableFull)
    | some c =>
      (bindContext s c w o.bay key o.length o.objId, { status := .done, ctx := some c, value := none })

/-- OPEN (R44, R45). -/
def orderOpen (o : Order) (s : State) : State × Done :=
  match o.window with
  | none => (s, plain .badWindow)
  | some w =>
    match (getWin s w).state, (getWin s w).defn with
    | .off, _ => (s, plain .badWindow)
    | .fenced, _ => (s, plain .fenced)
    | .active, none => (s, plain .badWindow)
    | .active, some d => if (getWin s w).draining then (s, plain .draining) else openBay o s w d

/-- The bay that CLOSE and RETIRE name: BAD-WINDOW, BAD-BAY and NOT-BOUND, or its context (R52, R53). -/
def orderBay (o : Order) (s : State) : Status ⊕ (WinId × CtxId) :=
  match o.window with
  | none => .inl .badWindow
  | some w =>
    match (getWin s w).region with
    | none => .inl .badWindow
    | some d =>
      if d.count ≤ o.bay then .inl .badBay
      else
        match lookup s w o.bay with
        | none => .inl .notBound
        | some c => .inr (w, c)

/-- R52: a PRIMING or COLLECTING transfer becomes ABORTED; its build is abandoned and its PRIMING holds released. -/
def closeContext (s : State) (w : WinId) (bay : Nat) (c : CtxId) : State :=
  let s1 := enterFinal s c { state := .aborted, cause := .closed }
  releasePriming { s1 with builder := abandonBuild s1.builder c } w bay

/-- CLOSE (R52). -/
def orderClose (o : Order) (s : State) : State × Done :=
  match orderBay o s with
  | .inl r => (s, plain r)
  | .inr (w, c) =>
    if (getCtx s c).state = .priming ∨ (getCtx s c).state = .collecting then
      (closeContext s w o.bay c, { status := .done, ctx := some c, value := none })
    else (s, plain .final)

/-- R53: a context in a final state enters GUARD, or returns to FREE where the guard ticks are 0. A tick delivered before
does not lower the guard count (R144). -/
def retireContext (s : State) (w : WinId) (c : CtxId) : State :=
  let s1 := abandonVisit (modCtx s c fun cx => { cx with isolated := false }) c
  let ticks := (getWin s1 w).defn.elim 0 (·.guardTicks)
  if ticks = 0 then returnToFree s1 c
  else modCtx (ageTaken s1 c) c fun cx => { cx with state := .guard, guardCount := some ticks }

/-- RETIRE (R53). -/
def orderRetire (o : Order) (s : State) : State × Done :=
  match orderBay o s with
  | .inl r => (s, plain r)
  | .inr (w, c) =>
    if (getCtx s c).state = .priming ∨ (getCtx s c).state = .collecting then (s, plain .notFinal)
    else if (getCtx s c).state.isFinal then
      (retireContext s w c, { status := .done, ctx := some c, value := some (getCtx s c).afterEnd })
    else (s, plain .final)

/-! ### CLEAR-ALL (R56, R128) -/

/-- R128: a held head is disposed of by its reason. A CONFLICT head loses its reason, and its new head event follows. -/
def clearLane (s : State) (l : LaneId) : State :=
  match (getLane s l).head with
  | some { req := r, standing := .held .priming } => forwardHead s l r none
  | some { req := r, standing := .held .reconcile } => forwardHead s l r none
  | some { req := r, standing := .held .conflict } =>
    setLane s l { getLane s l with head := some { req := r, standing := .released } }
  | some { req := r, standing := .held .fence } =>
    modCounters (setFence (partAnswer s l r) l none) fun k => { k with fenceClears := raise k.fenceClears 1 }
  | some { req := _, standing := .fresh } => s
  | some { req := _, standing := .released } => s
  | none => s

/-- R108: every slot is emptied, and each ATTACHED one counts as detached. -/
def clearSlots (s : State) : State :=
  dropReconcileReads
    (modCounters { s with slots := Vector.replicate 16 Slot.empty } fun k =>
      { k with reconDetached := raise k.reconDetached (s.slots.toList.filter Slot.isAttached).length })

/-- R56, R55: every context is FREE, the pool holds every record, the builder is IDLE, and every bound count is 0. -/
def freeAll (s : State) : State :=
  { s with
    ctxs := Vector.replicate 256 Context.free
    pool := { s.pool with level := Config.poolSize }
    builder := { building := none, queue := [] }
    windows := s.windows.map fun w => { w with bound := 0 } }

/-- CLEAR-ALL (R56). Draining windows are applied in increasing window number (R33). -/
def orderClearAll (_o : Order) (s : State) : State × Done :=
  let freed := 256 - freeCount s
  let s1 := freeAll (clearSlots (allLanes.foldl clearLane s))
  let s2 := stopSweepFor s1 .cleared
  (allWins.foldl drainApply s2, { status := .done, ctx := none, value := some freed })

/-! ### Sweeper orders (R152, R153, R159) -/

/-- R153: the order restarts a running ONCE sweep of the same window. -/
def restarts (o : Order) (s : State) (w : WinId) (m : SweepMode) : Bool :=
  o.restart && decide (m = .once) && decide (s.sweeper.state = .running) &&
    s.sweeper.job.any fun j => decide (j.mode = .once) && decide (j.win = w)

/-- R152, R153: the sweep that a RECHECK starts. -/
def startSweep (o : Order) (s : State) (w : WinId) (m : SweepMode) : State :=
  modSweeper s fun x =>
    { x with state := .running, checked := 0, failed := 0, skipped := 0,
             job := some { win := w, first := o.firstBay, last := o.lastBay, mode := m, current := o.firstBay } }

/-- RECHECK (R152, R153). -/
def orderRecheck (o : Order) (s : State) : State × Done :=
  match o.window with
  | none => (s, plain .badWindow)
  | some w =>
    match (getWin s w).region with
    | none => (s, plain .badWindow)
    | some d =>
      match o.sweepMode with
      | none => (s, plain .range)
      | some m =>
        if d.count ≤ o.firstBay ∨ d.count ≤ o.lastBay then (s, plain .badBay)
        else if s.sweeper.state = .idle then (startSweep o s w m, plain .done)
        else if restarts o s w m then
          let s1 := discardVisit s
          (startSweep o (handSweeper s1 (sweepReport s1 .restarted w)) w m, plain .done)
        else (s, plain .busy)

/-- STEP (R159). -/
def orderStep (_o : Order) (s : State) : State × Done :=
  match s.sweeper.state with
  | .idle => (s, plain .noSweep)
  | .running => (s, plain .busy)
  | .waitingStep => (modSweeper s fun x => { x with state := .running }, plain .done)

/-- STOP-SWEEP (R159). -/
def orderStopSweep (_o : Order) (s : State) : State × Done :=
  match s.sweeper.state with
  | .idle => (s, plain .noSweep)
  | .running => (stopSweepFor s .stopped, plain .done)
  | .waitingStep => (stopSweepFor s .stopped, plain .done)

/-- SNAPSHOT (R167). -/
def orderSnapshot (_o : Order) (s : State) : State × Done := (requestSnapshot s, plain .done)

/-- SET-ENGINE (R168, R143). -/
def orderSetEngine (_o : Order) (s : State) : State × Done :=
  (modTime s fun t => { t with pendingSettings := some (readSettings s) }, plain .done)

/-- R166: an unlisted code has no effect beyond its ORDER-DONE. -/
def orderUnknown (_o : Order) (s : State) : State × Done := (s, plain .unknownOrder)

/-- R166: an order is carried out by the block that owns it. -/
def carryOut (o : Order) (s : State) : State × Done :=
  if o.code = 1 then orderSetWindow o s
  else if o.code = 2 then orderRelease o s
  else if o.code = 3 then orderOpen o s
  else if o.code = 4 then orderClose o s
  else if o.code = 5 then orderRetire o s
  else if o.code = 6 then orderClearAll o s
  else if o.code = 7 then orderRecheck o s
  else if o.code = 8 then orderStep o s
  else if o.code = 9 then orderStopSweep o s
  else if o.code = 10 then orderSnapshot o s
  else if o.code = 11 then orderSetEngine o s
  else orderUnknown o s

/-! ### Taking an order (R165, R166) -/

/-- R166: the ORDER-DONE of an order. -/
def doneReport (o : Order) (d : Done) : Report := .orderDone o.code d.status o.tag o.win d.ctx d.value

/-- R165: the expected slot and lap advance, and an examination is due again. -/
def advanceSlot (u : OrderUnit) : OrderUnit :=
  { u with slot := u.slot + 1, lap := (if u.slot = 63 then 3 - u.lap else u.lap), examDue := true }

/-- R165: the examination-due flag is cleared. -/
def clearDue (s : State) : State := modOrders s fun o => { o with examDue := false }

/-- R165: the order that an examination finds: the Order Unit is able, the slot's lap is the expected one and its code
is not 0. -/
def foundOrder (s : State) : Option Order :=
  let b := slotBytes s s.orders.slot
  if able s && decide (byteAt b 1 = s.orders.lap) && decide (byteAt b 0 ≠ 0) then some (readOrder b) else none

/-- R165, R166: an order is taken and carried out in the examination's event; its ORDER-DONE is handed over last, and
the expected slot advances. -/
def takeOrder (f : Order → State → State × Done) (o : Order) (s : State) : State :=
  let x := f o (clearDue s)
  settle s (modOrders (handOrderDone x.1 (doneReport o x.2)) advanceSlot)

/-- R165: an examination that is due and finds an order with a code of this kind takes it. An order of another kind,
or none, is not this event: it is ORDER_EXAMINATION or the event of that kind (log entry 3). -/
def takeCoded (q : Byte → Bool) (f : Order → State → State × Done) (s : State) : Host.Outcome State Fault Refusal :=
  if s.orders.examDue then
    match foundOrder s with
    | some o => if q o.code then .next (takeOrder f o s) else .next s
    | none => .next s
  else .next s

/-- R165: the examination of the expected slot, with whatever order it finds. -/
def execOrderExamination (s : State) : Host.Outcome State Fault Refusal :=
  if s.orders.examDue then
    match foundOrder s with
    | some o => .next (takeOrder carryOut o s)
    | none => .next (clearDue s)
  else .next s

def execSetWindow (s : State) : Host.Outcome State Fault Refusal := takeCoded (fun c => decide (c = 1)) orderSetWindow s

def execRelease (s : State) : Host.Outcome State Fault Refusal := takeCoded (fun c => decide (c = 2)) orderRelease s

def execOpen (s : State) : Host.Outcome State Fault Refusal := takeCoded (fun c => decide (c = 3)) orderOpen s

def execClose (s : State) : Host.Outcome State Fault Refusal := takeCoded (fun c => decide (c = 4)) orderClose s

def execRetire (s : State) : Host.Outcome State Fault Refusal := takeCoded (fun c => decide (c = 5)) orderRetire s

def execClearAll (s : State) : Host.Outcome State Fault Refusal := takeCoded (fun c => decide (c = 6)) orderClearAll s

def execRecheck (s : State) : Host.Outcome State Fault Refusal := takeCoded (fun c => decide (c = 7)) orderRecheck s

def execStep (s : State) : Host.Outcome State Fault Refusal := takeCoded (fun c => decide (c = 8)) orderStep s

def execStopSweep (s : State) : Host.Outcome State Fault Refusal :=
  takeCoded (fun c => decide (c = 9)) orderStopSweep s

def execSnapshot (s : State) : Host.Outcome State Fault Refusal := takeCoded (fun c => decide (c = 10)) orderSnapshot s

def execSetEngine (s : State) : Host.Outcome State Fault Refusal :=
  takeCoded (fun c => decide (c = 11)) orderSetEngine s

def execUnknownOrder (s : State) : Host.Outcome State Fault Refusal :=
  takeCoded (fun c => decide (11 < c.toNat)) orderUnknown s

/-! ### CONSUMER_VALUE_WRITTEN (R172) -/

/-- R172: the oldest written consumer value handed over is taken, or refused and counted. -/
def execConsumerValueWritten (s : State) : Host.Outcome State Fault Refusal :=
  match s.engine.state, s.report.consumerIn with
  | .running, v :: rest =>
    let s1 := modReport s fun u => { u with consumerIn := rest }
    if consumerOk s v then .next (settle s (modReport s1 fun u => { u with consumer := v }))
    else .next (modReport s1 fun u => { u with badConsumer := raise u.badConsumer 1 })
  | _, _ => .next s

end Sys2Proof.Machine
end

