-- ==== Sys2Proof/Machine/Reports.lean ====
section
/-! DEFINITION. Answers to the Report Unit's own writes: STATUS_BLOCK_WRITE_DONE, RECORD_WRITE_DONE,
ENGINE_WRITE_ERROR. -/

namespace Sys2Proof.Machine

/-- R167: the block after the one answered is handed over, or the snapshot ends, and is repeated if asked. -/
def nextBlock (s : State) : State :=
  match s.report.snapWriting with
  | none => s
  | some n =>
    if n < 16 then handBlock s (n + 1)
    else if s.report.snapRepeat then beginSnapshot (modReport s fun u => { u with snapRepeat := false })
    else modReport s fun u => { u with snapWriting := none }

/-- R167: a status block's write is answered OKAY. -/
def execStatusBlockWriteDone (id : Nat) (s : State) : Host.Outcome State Fault Refusal :=
  match findIssued s id with
  | some { owner := .statusBlock, .. } => .next (nextBlock (retireIssued s id))
  | _ => .next s

/-- R171: a record is counted, and the producer word is handed over. -/
def countRecord (s : State) : State :=
  let s1 := modReport s fun u => { u with producer := u.producer + 1, inFlight := none }
  enqueue3 s1 [producerWrite s1]

/-- R171: a record write is answered OKAY. The OKAY of a producer word write has no effect beyond its answer (log
entry 5). -/
def execRecordWriteDone (id : Nat) (s : State) : Host.Outcome State Fault Refusal :=
  match findIssued s id with
  | some { owner := .record, .. } =>
    if s.report.inFlight.isSome then .next (settle s (countRecord (retireIssued s id))) else .next (retireIssued s id)
  | some { owner := .producerWord, .. } => .next (retireIssued s id)
  | _ => .next s

/-- R178, R181: an ERROR to a record, producer word or status block write sends a RUNNING engine to HALTED. -/
def execEngineWriteError (id : Nat) (s : State) : Host.Outcome State Fault Refusal :=
  match s.engine.state, findIssued s id with
  | .running, some { owner := .record, .. } => .next (enterHalted (retireIssued s id))
  | .running, some { owner := .producerWord, .. } => .next (enterHalted (retireIssued s id))
  | .running, some { owner := .statusBlock, .. } => .next (enterHalted (retireIssued s id))
  | _, _ => .next s

end Sys2Proof.Machine
end

