-- ==== Sys2Proof/Machine/Startup.lean ====
section
/-! DEFINITION. Reset and the start-up load (sections 12.2 to 12.5): PIN_RESET, RESET_RELEASE, LOAD_READ_DONE,
LOAD_CLEAR_DONE, LOAD_ERROR. -/

namespace Sys2Proof.Machine

/-- R179: RST_N low returns every block to its state after pin reset. The queue of waiting commands and the number of
the next issue on the memory link are the model's own and go on (log entry 4). -/
def execPinReset (s : State) : Host.Outcome State Fault Refusal :=
  .next { State.reset with
          pending := s.pending, choices := s.choices, port := { State.reset.port with nextId := s.port.nextId } }

/-- R180, step 1: the read of 256 bytes of the control page from this offset. -/
def loadRead (s : State) (off : Nat) : MemReq :=
  { kind := .read, addr := pageAddr s off, count := 256, data := [], owner := .loadRead off }

/-- R180, step 2: a write of zero bytes. -/
def loadClear (s : State) (off n : Nat) : MemReq :=
  { kind := .write, addr := pageAddr s off, count := n, data := List.replicate n 0, owner := .loadClear }

/-- R180, step 1: the 64 reads, in increasing address. -/
def loadReads (s : State) : List MemReq := (List.range 64).map fun i => loadRead s (256 * i)

/-- R180, step 2: 8 writes over the order ring, 32 over the result ring, one over the two counts. The rule gives them no
order within the event: that they enter class 3 in this one, each group in increasing address, is the model's choice (log
entry 34). -/
def loadClears (s : State) : List MemReq :=
  (List.range 8).map (fun i => loadClear s (0x800 + 256 * i) 256) ++
    (List.range 32).map (fun i => loadClear s (0x2000 + 256 * i) 256) ++ [loadClear s 0x40 8]

/-- R179, R180, R182: the straps are sampled at the release of RST_N, and the engine enters BYPASSED, or LOADING with
step 1 of the load. -/
def execResetRelease (bypass : Bool) (cpb : BitVec 8) (s : State) : Host.Outcome State Fault Refusal :=
  if s.engine.state = .reset then
    if bypass then .next { s with engine := { s.engine with state := .bypassed, cpb := cpb } }
    else
      let s1 := { s with engine := { s.engine with state := .loading, cpb := cpb, load := .reading 64 } }
      .next (enqueue3 s1 (loadReads s1))
  else .next s

/-- R180, step 2: the ring clears are handed over, with the shadow's order ring and consumer count at 0 and the Report
Unit's counts at 0. -/
def beginClears (s : State) : State :=
  let s1 := modOrders s fun o => { o with shadow := o.shadow.filter fun c => !(inRing c.1 || inConsumer c.1) }
  let s2 := modReport s1 fun u => { u with producer := 0, consumer := 0 }
  enqueue3 { s2 with engine := { s2.engine with load := .clearing 41 } } (loadClears s2)

/-- R180, step 1: an OKAY load read's software-owned bytes enter the shadow, and the last of the 64 ends the step.
Neither this fill of the order ring nor its clearing is taken as a shadow copy that sets the examination-due flag, which
the entry to RUNNING sets in any case (R165): that is the model's reading (log entry 35). -/
def execLoadReadDone (id : Nat) (data : List Byte) (s : State) : Host.Outcome State Fault Refusal :=
  match s.engine.load, findIssued s id with
  | .reading left, some { owner := .loadRead off, count := n, .. } =>
    if data.length = n then
      let s1 := modOrders (retireIssued s id) fun o => { o with shadow := copyBytes o.shadow off data }
      if left ≤ 1 then .next (beginClears s1)
      else .next { s1 with engine := { s1.engine with load := .reading (left - 1) } }
    else .fault .responseLength
  | _, _ => .next s

/-- R180, step 3: the settings are taken from the shadow directly into force. -/
def takeSettings (s : State) : State :=
  let v := readSettings s
  modReport (modTime s fun t => { t with interval := v.interval, period := v.period })
    fun u => { u with attnEnable := v.attn }

/-- R180, step 4: one window table entry is applied, or refused; an entry whose enable is 0 does nothing. The reports
are those of step 5, in the order they are handed over. -/
def loadWindow (x : State × List Report) (w : WinId) : State × List Report :=
  let t := takeDefinition (windowEntry x.1 w)
  match t, validate x.1 w t with
  | some .disabled, _ => x
  | some (.enabled d), none => (applyDef x.1 w (.enabled d), x.2 ++ [.windowApplied w .active none])
  | some (.enabled _), some r => (x.1, x.2 ++ [.windowApplied w .off (some r)])
  | none, r => (x.1, x.2 ++ [.windowApplied w .off r])

/-- R180, step 6: the engine and the Time Base become RUNNING. -/
def runEngine (s : State) : State :=
  { s with
    engine := { s.engine with state := .running, load := .idle }
    time := { s.time with running := true, micros := 0, prescaler := 0,
                          countdown := if s.time.period = 0 then none else some s.time.period } }

/-- The windows that are ACTIVE. -/
def activeWindows (s : State) : Nat := (s.windows.toList.filter fun w => decide (w.state = .active)).length

/-- R180, steps 3 to 6. -/
def finishLoad (s : State) : State :=
  let x := allWins.foldl loadWindow (takeSettings s, [])
  runEngine (build x.1 (.startup s.engine.cpb (activeWindows x.1) :: x.2))

/-- R180: an OKAY ring clear, and with the last of the 41 the rest of the load. -/
def execLoadClearDone (id : Nat) (s : State) : Host.Outcome State Fault Refusal :=
  match s.engine.load, findIssued s id with
  | .clearing left, some { owner := .loadClear, .. } =>
    let s1 := retireIssued s id
    if left ≤ 1 then .next (settle s (finishLoad s1))
    else .next { s1 with engine := { s1.engine with load := .clearing (left - 1) } }
  | _, _ => .next s

/-- R178, R180, R181: an ERROR to a load request sends the engine to HALTED. -/
def execLoadError (id : Nat) (s : State) : Host.Outcome State Fault Refusal :=
  match findIssued s id with
  | some { owner := .loadRead _, .. } =>
    if s.engine.state = .loading then .next (enterHalted (retireIssued s id)) else .next s
  | some { owner := .loadClear, .. } =>
    if s.engine.state = .loading then .next (enterHalted (retireIssued s id)) else .next s
  | _ => .next s

end Sys2Proof.Machine
end

