-- ==== Sys2Proof/Machine/Sweeps.lean ====
section
/-! DEFINITION. Visits of the Recheck Sweeper (chapter 10): VISIT_BEGIN, RECHECK_READ_DONE, RECHECK_READ_ERROR. -/

namespace Sys2Proof.Machine

/-- R156: the length of the chunk's read at this offset. -/
def readLength (len off : Nat) : Nat := min 256 (len - off)

/-- R156: the reads of a chunk, in increasing order of offset. -/
def chunkReads (len chunk : Nat) : List VisitRead :=
  ((List.range 16).map fun i => 4096 * chunk + 256 * i).filterMap fun off =>
    if off < len then some { off := off, count := readLength len off, standing := .waiting } else none

/-- R156: a read of the bay as an engine request. -/
def recheckRequest (d : WinDef) (bay : Nat) (x : VisitRead) : MemReq :=
  { kind := .read, addr := BitVec.ofNat 40 (d.bayBase bay + x.off), count := x.count, data := [],
    owner := .recheck x.off }

/-- R156: a chunk's reads are handed to the Memory Port together. -/
def handChunk (s : State) (v : Visit) (chunk : Nat) : State :=
  let v1 := { v with chunk := chunk, reads := chunkReads v.len chunk }
  let s1 := modSweeper s fun x => { x with visit := some v1 }
  match (getCtx s v.ctx).binding, defnOf s v.ctx with
  | some b, some d => enqueue4 s1 (v1.reads.map (recheckRequest d b.bay))
  | _, _ => s1

/-- R157: the failed count, and the RECHECK-FAIL that follows the CORRUPTED transfer's TRANSFER-END. A recheck outcome
is discarded in any state but VERIFIED (R60). -/
def failVisit (s : State) (c : CtxId) (cause : Cause) (recomputed : Option Nat) : State :=
  let cx := getCtx s c
  if cx.state = .verified then
    let s1 := modSweeper (enterSecond s c { state := .corrupted, cause := cause }) fun x =>
      { x with failed := x.failed + 1 }
    match cx.binding with
    | some b => handSweeper s1 (.recheckFail cause c b.win b.bay b.number recomputed (cx.verifiedCheck.getD 0))
    | none => s1
  else s

/-- R157: a visit whose sum is V is judged, and ends. -/
def judgeVisit (s : State) (c : CtxId) (v : Nat) : State :=
  if (getCtx s c).verifiedCheck = some v then
    endVisit (modSweeper (discardVisit s) fun x => { x with checked := x.checked + 1 })
  else endVisit (failVisit (discardVisit s) c .checkDiffers (some v))

/-- R155: the visit of the current bay, from what the binding map says of it. -/
def beginVisit (s : State) (j : SweepJob) : State :=
  match lookup s j.win j.current with
  | none => endVisit (modSweeper s fun x => { x with skipped := x.skipped + 1 })
  | some c =>
    match (getCtx s c).state, (getCtx s c).binding with
    | .verified, some b =>
      match (getCtx s c).len.getD 0 with
      | 0 => judgeVisit s c 0
      | n + 1 => handChunk s { ctx := c, number := b.number, len := n + 1, sum := 0, chunk := 0, reads := [] } 0
    | _, _ => endVisit (modSweeper s fun x => { x with skipped := x.skipped + 1 })

/-- R155, R161: a visit begins while the sweeper is RUNNING with no visit in progress and no waiting record. -/
def execVisitBegin (s : State) : Host.Outcome State Fault Refusal :=
  match s.engine.state, s.sweeper.state, s.sweeper.job, s.sweeper.visit, s.sweeper.waiting with
  | .running, .running, some j, none, [] => .next (settle s (beginVisit s j))
  | _, _, _, _, _ => .next s

/-- R156: the read at this offset is answered. -/
def answerRead (v : Visit) (off : Nat) : Visit :=
  { v with reads := v.reads.map fun x => if x.off = off then { x with standing := .answered } else x }

/-- R19: the returned bytes' contribution is added to V. -/
def addRead (s : State) (v : Visit) (off : Nat) (data : List Byte) : Visit :=
  { v with sum := addMod v.sum (contribution ((getCtx s v.ctx).ladder.getD []) off data) }

/-- R156, R157: an OKAY response is added, and the chunk or the visit ends with its last response. -/
def takeRead (s : State) (v : Visit) (off : Nat) (data : List Byte) : State :=
  let v1 := addRead s (answerRead v off) off data
  if v1.reads.all fun x => decide (x.standing = .answered) then
    if 4096 * (v1.chunk + 1) < v1.len then handChunk s v1 (v1.chunk + 1) else judgeVisit s v1.ctx v1.sum
  else modSweeper s fun x => { x with visit := some v1 }

/-- R156: a recheck read is answered OKAY. A visit is in progress only while RUNNING (R162). -/
def execRecheckReadDone (id : Nat) (data : List Byte) (s : State) : Host.Outcome State Fault Refusal :=
  match findIssued s id, s.sweeper.visit with
  | some { owner := .recheck off, count := n, .. }, some v =>
    if isRunning s = false then .next s
    else if data.length = n then .next (settle s (takeRead (retireIssued s id) v off data)) else .fault .responseLength
  | _, _ => .next s

/-- R157: a recheck read is answered ERROR: the visit fails, its other reads are withdrawn or given up. -/
def execRecheckReadError (id : Nat) (s : State) : Host.Outcome State Fault Refusal :=
  match findIssued s id, s.sweeper.visit with
  | some { owner := .recheck _, .. }, some v =>
    if isRunning s = false then .next s
    else .next (settle s (endVisit (failVisit (discardVisit (retireIssued s id)) v.ctx .readError none)))
  | _, _ => .next s

end Sys2Proof.Machine
end

