-- ==== Sys2Proof/Machine/Transfers.lean ====
section
/-! DEFINITION. The ladder builder and the Reconcile Unit's read returns: LADDER_COMPLETE, RECONCILE_READ_RETURN,
RECONCILE_READ_ERROR, DETACHED_READ_RETURN. -/

namespace Sys2Proof.Machine

/-- R47: a context enters COLLECTING with an empty list and its idle count loaded. -/
def collectingContext (cx : Context) (key idleLimit : Nat) : Context :=
  { cx with state := .collecting, ladder := some (ladderOf key), extents := [], idle := some idleLimit }

/-- R7, R47, R60: the ladder is complete: the context becomes COLLECTING, its PRIMING holds are released, and the next
queued build starts. In any state but PRIMING the event changes no context. A tick delivered before finds the context not
COLLECTING, and does not lower its idle count (R146). -/
def execLadderComplete (s : State) : Host.Outcome State Fault Refusal :=
  match s.builder.building with
  | none => .next s
  | some c =>
    let s1 := { s with builder := nextBuild s.builder }
    match (getCtx s c).state, (getCtx s c).binding, defnOf s c with
    | .priming, some b, some d =>
      .next (releasePriming (modCtx (ageTaken s1 c) c fun cx => collectingContext cx b.key d.idleLimit) b.win b.bay)
    | _, _, _ => .next s1

/-- R104, step 1, and R14, R15: the accumulator after the corrections, while the context is COLLECTING. -/
def correctedContext (cx : Context) (r : ReconRec) (old : List Byte) : Context :=
  if cx.state = .collecting then
    { cx with acc := correctPieces (cx.ladder.getD []) r.span.start old r.offset r.write.data r.pieces cx.acc,
              reconBytes := raise cx.reconBytes (totalLength r.pieces), reconCount := cx.reconCount - 1 }
  else cx

/-- R104, step 6: the slot is EMPTY, and the heads held for CONFLICT against its write are released. -/
def freeSlot (s : State) (l : LaneId) (write : Request) : State := releaseConflicts (setSlot s l .empty) write

/-- R104: the OKAY read of an ATTACHED slot. The slot is emptied before the verdict occasion, since its reconcile is
complete and is not one that a verdict would detach. -/
def completeReconcile (s : State) (l : LaneId) (c : CtxId) (r : ReconRec) (old : List Byte) : State :=
  let s1 := modCtx s c fun cx => correctedContext cx r old
  let s2 := modCounters s1 fun k => { k with reconCompleted := raise k.reconCompleted 1 }
  let s3 := freeSlot (forwardHead s2 l r.write (trackOf s2 c)) l r.write
  if (getCtx s3 c).reconCount = 0 then verdictOccasion s3 c else s3

/-- R104: the read of an ATTACHED slot returns OKAY. A slot is ATTACHED only while RUNNING (R101, R109). -/
def execReconcileReadReturn (id : Nat) (data : List Byte) (s : State) : Host.Outcome State Fault Refusal :=
  match findIssued s id with
  | some { owner := .reconcile l, count := n, .. } =>
    match getSlot s l with
    | .attached c r =>
      if isRunning s = false then .next s
      else if data.length = n then .next (settle s (completeReconcile (retireIssued s id) l c r data))
      else .fault .responseLength
    | .detached _ => .next s
    | .empty => .next s
  | _ => .next s

/-- R105: the read of an ATTACHED slot returns ERROR: no correction, the held write is forwarded, the transfer LOST. -/
def failReconcile (s : State) (l : LaneId) (c : CtxId) (r : ReconRec) : State :=
  let s1 := freeSlot (forwardHead s l r.write (trackOf s c)) l r.write
  loseTransfer (modCounters s1 fun k => { k with reconFailed := raise k.reconFailed 1 }) c .reconcileError

/-- R105: the read of an ATTACHED slot returns ERROR. -/
def execReconcileReadError (id : Nat) (s : State) : Host.Outcome State Fault Refusal :=
  match findIssued s id with
  | some { owner := .reconcile l, .. } =>
    match getSlot s l with
    | .attached c r =>
      if isRunning s = false then .next s else .next (settle s (failReconcile (retireIssued s id) l c r))
    | .detached _ => .next s
    | .empty => .next s
  | _ => .next s

/-- R106: the read of a DETACHED slot returns, OKAY or ERROR: its data is discarded and its write forwarded as a write
of no transfer. -/
def execDetachedReadReturn (id : Nat) (_resp : MemResp) (s : State) : Host.Outcome State Fault Refusal :=
  match findIssued s id with
  | some { owner := .reconcile l, .. } =>
    match getSlot s l with
    | .detached r => .next (freeSlot (forwardHead (retireIssued s id) l r.write none) l r.write)
    | .attached _ _ => .next s
    | .empty => .next s
  | _ => .next s

end Sys2Proof.Machine
end

