-- ==== Sys2Proof/Machine/Dispatch.lean ====
section
/-! DEFINITION. One arm for each command: one direct call of its meaning. -/

namespace Sys2Proof.Machine

def exec (i : Instr) (s : State) : Host.Outcome State Fault Refusal :=
  match i with
  | .pinReset => Sys2Proof.Machine.execPinReset s
  | .resetRelease bypass cpb => Sys2Proof.Machine.execResetRelease bypass cpb s
  | .loadReadDone id data => Sys2Proof.Machine.execLoadReadDone id data s
  | .loadClearDone id => Sys2Proof.Machine.execLoadClearDone id s
  | .loadError id => Sys2Proof.Machine.execLoadError id s
  | .requestArrival r => Sys2Proof.Machine.execRequestArrival r s
  | .headEvent lane => Sys2Proof.Machine.execHeadEvent lane s
  | .consumerValueWritten => Sys2Proof.Machine.execConsumerValueWritten s
  | .orderExamination => Sys2Proof.Machine.execOrderExamination s
  | .setWindow => Sys2Proof.Machine.execSetWindow s
  | .release => Sys2Proof.Machine.execRelease s
  | .openTransfer => Sys2Proof.Machine.execOpen s
  | .closeTransfer => Sys2Proof.Machine.execClose s
  | .retire => Sys2Proof.Machine.execRetire s
  | .clearAll => Sys2Proof.Machine.execClearAll s
  | .recheck => Sys2Proof.Machine.execRecheck s
  | .stepSweep => Sys2Proof.Machine.execStep s
  | .stopSweep => Sys2Proof.Machine.execStopSweep s
  | .snapshot => Sys2Proof.Machine.execSnapshot s
  | .setEngine => Sys2Proof.Machine.execSetEngine s
  | .unknownOrder => Sys2Proof.Machine.execUnknownOrder s
  | .ladderComplete => Sys2Proof.Machine.execLadderComplete s
  | .reconcileReadReturn id data => Sys2Proof.Machine.execReconcileReadReturn id data s
  | .reconcileReadError id => Sys2Proof.Machine.execReconcileReadError id s
  | .detachedReadReturn id resp => Sys2Proof.Machine.execDetachedReadReturn id resp s
  | .responseRelay id resp => Sys2Proof.Machine.execResponseRelay id resp s
  | .memoryIssue => Sys2Proof.Machine.execMemoryIssue s
  | .orphanResponse id resp => Sys2Proof.Machine.execOrphanResponse id resp s
  | .tick => Sys2Proof.Machine.execTick s
  | .idleCountEnd ctx => Sys2Proof.Machine.execIdleCountEnd ctx s
  | .guardEnd ctx => Sys2Proof.Machine.execGuardEnd ctx s
  | .holdCountEnd lane => Sys2Proof.Machine.execHoldCountEnd lane s
  | .settingsAdopt => Sys2Proof.Machine.execSettingsAdopt s
  | .snapshotCountdownEnd => Sys2Proof.Machine.execSnapshotCountdownEnd s
  | .statusBlockWriteDone id => Sys2Proof.Machine.execStatusBlockWriteDone id s
  | .recordWriteDone id => Sys2Proof.Machine.execRecordWriteDone id s
  | .engineWriteError id => Sys2Proof.Machine.execEngineWriteError id s
  | .visitBegin => Sys2Proof.Machine.execVisitBegin s
  | .recheckReadDone id data => Sys2Proof.Machine.execRecheckReadDone id data s
  | .recheckReadError id => Sys2Proof.Machine.execRecheckReadError id s
  | .microsecondStep => Sys2Proof.Machine.execMicrosecondStep s

end Sys2Proof.Machine
end

