-- ==== Sys2Proof/Safety.lean ====
section
/-! DEFINITION. What a state of a safe run keeps: the facts that the manual states of the whole part, each as one
property of a state. -/

namespace Sys2Proof.Machine

/-- The start-up load is under way only while LOADING (R180). -/
def LoadOnlyWhileLoading (s : State) : Prop := s.engine.load ≠ .idle → s.engine.state = .loading

/-- R164: the shadow is in its canonical form and holds bytes of software-owned areas alone. -/
def ShadowInv (s : State) : Prop :=
  shadowWf s.orders.shadow = true ∧ ∀ c ∈ s.orders.shadow, softwareOwned c.1 = true

/-- R173, R171 and section 12.6: ATTN and FAULT_N stand as the state of the engine and of the result ring says, and no
record that may leave the pending list is still in it. -/
def RestInv (s : State) : Prop :=
  s.engine.attn = attnLevel s ∧ s.engine.faultN = decide (s.engine.state ≠ .halted) ∧
    (mayLeave s = true → s.report.list = []) ∧ LoadOnlyWhileLoading s

/-- The requests that a lane holds, its head first (R115). -/
def laneRequests (x : Lane) : List Request := x.head.toList.map (·.req) ++ x.backlog

/-- R114: every request accepted, and the one waiting at a stall, is one that the link's format can carry. -/
def RequestsWf (s : State) : Prop :=
  (∀ l : LaneId, ∀ r ∈ laneRequests (getLane s l), r.wf = true) ∧
    ∀ st : Stall, s.stall = some st → st.waiting.wf = true

/-- R114, R115, R169, R171: the lanes hold requests of the link's format; no backlog exceeds 8; the pending list never
holds more than 32 records, and is empty until the load fills it (R174, R180); and the ring never holds more than 256
unconsumed records, one in flight counted among them. -/
def QueueInv (s : State) : Prop :=
  RequestsWf s ∧ (∀ l : LaneId, (getLane s l).backlog.length ≤ 8) ∧
  s.report.list.length ≤ 32 ∧
  (s.engine.state = .reset ∨ s.engine.state = .loading → s.report.list = []) ∧
  LoadOnlyWhileLoading s ∧
  unconsumed s + (if s.report.inFlight.isSome then 1 else 0) ≤ 256

/-- R1, R40, R55: every accumulator lies in [0, p - 1], a FREE context holds nothing, and one in GUARD owes no report,
since RETIRE is taken only where nothing is owed (R53, R165). -/
def AccumulatorInv (s : State) : Prop :=
  ∀ c : CtxId, (getCtx s c).acc < P ∧ ((getCtx s c).state = .free → getCtx s c = Context.free) ∧
    ((getCtx s c).state = .guard → (getCtx s c).owed = 0)

/-- The extent records in all contexts' lists (R65). -/
def listedRecords (s : State) : Nat := (s.ctxs.toList.map fun c => c.extents.length).sum

/-- R65, R66, R67: the pool and the lists hold the 2048 records between them, the lowest level is not above the level,
only COLLECTING contexts hold extents, and every list has the form of R67. -/
def PoolInv (s : State) : Prop :=
  s.pool.level + listedRecords s = 2048 ∧ s.pool.lowest ≤ s.pool.level ∧
    ∀ c : CtxId, extentsWf (getCtx s c).extents = true ∧
      ((getCtx s c).state ≠ .collecting → (getCtx s c).extents = [])

/-- A lane's head is held with this reason. -/
def heldFor (s : State) (l : LaneId) (h : HoldReason) : Prop :=
  (getLane s l).head.bind (·.hold) = some h

/-- R101, R131: a lane's head is held for RECONCILE exactly while its slot holds a write, which is that head, and held
for FENCE exactly while the Fence Unit holds its record; no head is held and no slot or record is in use outside
RUNNING. -/
def HoldInv (s : State) : Prop :=
  ∀ l : LaneId,
    (heldFor s l .reconcile ↔ getSlot s l ≠ .empty) ∧
    ((getSlot s l).write.isSome = true → (getSlot s l).write = (getLane s l).head.map (·.req)) ∧
    (heldFor s l .fence ↔ (getFence s l).isSome = true) ∧
    (s.engine.state ≠ .running → (getLane s l).head.bind (·.hold) = none)

/-- R101: outside HALTED a context's reconcile count equals the number of ATTACHED slots naming it, and it is 0
outside COLLECTING (R40). -/
def ReconcileInv (s : State) : Prop :=
  HoldInv s ∧ LoadOnlyWhileLoading s ∧
    (s.engine.state ≠ .halted → ∀ c : CtxId, (getCtx s c).reconCount = attachedCount s c ∧
      ((getCtx s c).state ≠ .collecting → (getCtx s c).reconCount = 0))

/-- The contexts bound to bays of a window (R30). -/
def boundContexts (s : State) (w : WinId) : Nat :=
  (s.ctxs.toList.filter fun c => c.binding.any fun b => decide (b.win = w)).length

/-- R40, R48, R62: a context has a binding exactly while it is not FREE, one whose transfer has ended has its final
state, and one that owes a report has both. -/
def ContextsBound (s : State) : Prop :=
  ∀ c : CtxId, ((getCtx s c).state = .free ↔ (getCtx s c).binding = none) ∧
    ((getCtx s c).state.isFinal = true → (getCtx s c).first.isSome = true) ∧
    ((getCtx s c).owed ≠ 0 → (getCtx s c).binding.isSome = true ∧ (getCtx s c).first.isSome = true)

/-- R30, R33: besides, each window's bound count is the number of contexts bound to its bays, and a window with a staged
definition has one at least. -/
def BoundInv (s : State) : Prop :=
  ContextsBound s ∧
  ∀ w : WinId, (getWin s w).bound = boundContexts s w ∧ ((getWin s w).draining = true → 0 < (getWin s w).bound)

/-- R41: a (window, bay) pair is bound to at most one context. -/
def BindingInv (s : State) : Prop :=
  ∀ c k : CtxId, ∀ w : WinId, ∀ bay : Nat,
    boundTo w bay (getCtx s c) = true → boundTo w bay (getCtx s k) = true → c = k

/-- R6: the build in progress and the queue are of different contexts, all PRIMING, and an IDLE builder has no queue. -/
def BuilderInv (s : State) : Prop :=
  (s.builder.building.toList ++ s.builder.queue).Nodup ∧
  (∀ c ∈ s.builder.building.toList ++ s.builder.queue, (getCtx s c).state = .priming) ∧
  (s.builder.building = none → s.builder.queue = [])

/-- The regions that a window's entry describes: that in force, and that of an enabled staged definition. -/
def describedRegions (w : Window) : List WinDef :=
  w.region.toList ++ (match w.staged with
    | some (.enabled d) => [d]
    | some .disabled => []
    | none => [])

/-- R22, R32: the regions that a window's entry describes meet neither the control page nor those of another window,
an OFF window has no definition, and in RESET no window describes any. -/
def RegionInv (s : State) : Prop :=
  (∀ w : WinId, ((getWin s w).state = .off ↔ (getWin s w).defn = none) ∧
    ∀ d ∈ describedRegions (getWin s w),
      rangeOk d = true ∧
      rangesMeet d.base.toNat d.regionEnd (pageBase s) (pageBase s + 16384) = false ∧
      s.engine.state ≠ .reset ∧
      ∀ v : WinId, v ≠ w → ∀ e ∈ describedRegions (getWin s v),
        rangesMeet d.base.toNat d.regionEnd e.base.toNat e.regionEnd = false) ∧
  LoadOnlyWhileLoading s

/-! ### Terms of the statements about single commands -/

/-- What the Report Unit has built or holds to build of the orders: the bodies of the record in flight and of the
pending list, and the waiting ORDER-DONE (R166, R171). -/
def reported (s : State) : List Report :=
  s.report.inFlight.toList.map (·.body) ++ s.report.list.map (·.body) ++ s.orders.waitingDone.toList

/-- Nothing is owed to the pending list: no owed window record, owed transfer report, sweeper waiting record or
waiting ORDER-DONE (R170). -/
def nothingOwed (s : State) : Bool := !anyOwed s && s.orders.waitingDone.isNone

/-- What the Lane Front shows but for its requests toward memory: the lanes, the stall and the responses given. -/
def laneSide (s : State) : Vector Lane 16 × Option Stall × List Response := (s.lanes, s.stall, s.upOut)

/-- What the tracking blocks hold: windows, contexts, serial, pool, builder, reconcile slots and held reads. -/
def trackSide (s : State) : Vector Window 16 × Vector Context 256 × Word32 × Pool × Builder × Vector Slot 16 ×
    Vector (Option FenceRec) 16 :=
  (s.windows, s.ctxs, s.serial, s.pool, s.builder, s.slots, s.fence)

/-- The Time Base, the sweeper, the engine counters, and the model's own choice count and command queue. -/
def clockSide (s : State) : TimeBase × Sweeper × Counters × Nat × List Instr :=
  (s.time, s.sweeper, s.counters, s.choices, s.pending)

/-- What the Report Unit holds but for its records: the ring's counts, the snapshot, the attention enable, and the
consumer values handed over. -/
def ringSide (s : State) : (Word32 × Word32 × Nat × Bool) × (Option Nat × Bool × Word32) × List Word32 :=
  ((s.report.producer, s.report.consumer, s.report.badConsumer, s.report.attnEnable),
    (s.report.snapWriting, s.report.snapRepeat, s.report.snapNumber), s.report.consumerIn)

/-- The write of the record that has left the pending list between two states (R171). -/
def ringWrites (s t : State) : List MemReq :=
  match s.report.inFlight, t.report.inFlight with
  | none, some r => [recordWrite s r]
  | none, none => []
  | some _, _ => []

/-- A request as the Lane Front hands it to the Memory Port (R123). -/
def forwardedReq (r : Request) (tracked : Option (CtxId × Word32)) : MemReq :=
  { kind := r.kind, addr := r.addr, count := r.count, data := r.data,
    owner := .forwarded { lane := r.lane, ident := r.ident, kind := r.kind, tracked := tracked } }

/-- The answer ERROR of the part to a request (R124). -/
def errorTo (r : Request) : Response := { lane := r.lane, ident := r.ident, resp := .error }

/-- The lanes with a lane's head gone (R119). -/
def headGone (s : State) (l : LaneId) : Vector Lane 16 := s.lanes.set l.val { getLane s l with head := none } l.isLt

/-- The lanes with a lane's head held for a reason (R115). -/
def headHeld (s : State) (l : LaneId) (r : Request) (h : HoldReason) : Vector Lane 16 :=
  s.lanes.set l.val { getLane s l with head := some { req := r, standing := .held h } } l.isLt

/-- The claim queue of class 1 with one more request (R176). -/
def portWith (s : State) (m : MemReq) : Port := { s.port with q1 := s.port.q1 ++ [m] }

/-- The lane's head awaits its first or its new head event (R115, R121). -/
def awaits (s : State) (l : LaneId) (r : Request) : Prop :=
  (getLane s l).head = some { req := r, standing := .fresh } ∨
    (getLane s l).head = some { req := r, standing := .released }

/-- A lane's head awaits its head event while the engine is RUNNING, and conflicts with no held write. -/
def HeadDue (s : State) (l : LaneId) (r : Request) : Prop :=
  s.engine.state = .running ∧ awaits s l r ∧ conflicts s l r = false

/-- An examination is due and finds this order (R165; that an order's command is its examination is log entry 3). -/
def OrderFound (s : State) (o : Order) : Prop := s.orders.examDue = true ∧ foundOrder s = some o

/-- An order has been taken (R165, R166): these records follow those reported before it, the sequence number has risen
by the number of those built (R169), the expected slot has advanced and an examination is due, ATTN stands as R173 says,
and the only requests handed over are those listed and the write of a record that has left the list. -/
def TookOrder (s t : State) (rs : List Report) (blocks : List MemReq) : Prop :=
  reported t = reported s ++ rs ∧
  t.report.seq + BitVec.ofNat 32 t.orders.waitingDone.toList.length = s.report.seq + BitVec.ofNat 32 rs.length ∧
  t.orders.shadow = s.orders.shadow ∧ t.orders.slot = s.orders.slot + 1 ∧
  t.orders.lap = (if s.orders.slot = 63 then 3 - s.orders.lap else s.orders.lap) ∧ t.orders.examDue = true ∧
  t.engine = { s.engine with attn := attnLevel t } ∧
  t.port = { s.port with q3 := s.port.q3 ++ blocks ++ ringWrites s t }

/-- An order has been taken with a status alone, and nothing else has changed (R166). -/
def AnsweredOnly (s t : State) (o : Order) (st : Status) : Prop :=
  TookOrder s t [doneReport o (plain st)] [] ∧ ringSide t = ringSide s ∧ laneSide t = laneSide s ∧
    trackSide t = trackSide s ∧ clockSide t = clockSide s

/-- A write or a read of one bay: rows 3, 4 and 5 of R24. -/
def OneBay (s : State) (r : Request) (t : Touch) : Prop :=
  classify s r = .payload t ∨ classify s r = .trailer t ∨ classify s r = .both t

/-- The sum of bytes weighted by the powers of a key, the first by its power at an offset (R11). -/
def weightedSum (r a : Nat) : List Byte → Nat
  | [] => 0
  | d :: rest => d.toNat * r ^ a + weightedSum r (a + 1) rest

/-! ### What the end of a transfer does (R48, R34, R35, R63, R50, R157) -/

/-- R63: the TRANSFER-END group of a bound context. -/
def endGroup (f : FinalRec) (c : CtxId) (b : Binding) (cx : Context) : List Report :=
  [.transferEnd f c b.win b.bay b.number cx.len cx.tflags cx.acc, .transferIds c b.number cx.chk cx.objId,
    .transferCounts c cx.newBytes cx.reconBytes cx.strayBytes cx.rejWrites cx.afterEnd]

/-- R34: a window's strike count after a final state. -/
def strikesAfter (x : Window) (f : CtxState) : Nat :=
  if f = .verified then 0 else if f.strikes then min (x.strikes + 1) 255 else x.strikes

/-- R35: the final state fences the window. -/
def fencedBy (x : Window) (f : CtxState) : Bool :=
  f.strikes && decide (x.state = .active) &&
    x.defn.any fun d => decide (d.threshold ≠ 0 ∧ d.threshold ≤ min (x.strikes + 1) 255)

/-- R34, R35: a window's entry after a final state. -/
def endedWindow (x : Window) (f : CtxState) : Window :=
  { x with
    state := if fencedBy x f then .fenced else x.state
    strikes := strikesAfter x f
    counters := { x.counters with
      verified := if f = .verified then min (x.counters.verified + 1) 4294967295 else x.counters.verified
      failed := if f.strikes then min (x.counters.failed + 1) 4294967295 else x.counters.failed } }

/-- R35, R38: the WINDOW-FENCED record of a final state that fences the window. -/
def fencedRecord (x : Window) (w : WinId) (f : CtxState) : List Report :=
  if fencedBy x f then [.windowFenced w (strikesAfter x f)] else []

/-- R48, R51: a context after its first final state. -/
def endedContext (cx : Context) (f : FinalRec) (isolate : Bool) : Context :=
  { cx with
    state := f.state, first := some f, idle := none, reconCount := 0, extents := []
    verifiedCheck := if f.state = .verified then some cx.acc else cx.verifiedCheck
    isolated := if f.state = .mismatch then isolate else cx.isolated }

/-- The read that a lane holds for FENCE on a context's bay. -/
def heldReadOf (s : State) (c : CtxId) (l : LaneId) : Option Request :=
  if (getFence s l).any (fun g => decide (g.ctx = c)) then (getLane s l).head.map (·.req) else none

/-- A 32-bit saturating counter raised by one for each of `n` things (00_scope.md, Conventions, Counters). -/
def raisedBy (x n : Nat) : Nat := if n = 0 then x else min (x + n) 4294967295

/-- R48: a context has entered its first final state, from the state `s` that the rest of its event leaves: its list is
returned, its reconciles detached, its held reads forwarded or answered ERROR (R135, R136), its window told (R34, R35),
and its TRANSFER-END group reported, after a WINDOW-FENCED. The order of the answers is the model's (log entry 14). -/
def TransferEnded (s t : State) (c : CtxId) (b : Binding) (f : FinalRec) : Prop :=
  let cx := getCtx s c
  let reads := allLanes.filterMap (heldReadOf s c)
  let verified := decide (f.state = .verified)
  let records := fencedRecord (getWin s b.win) b.win f.state ++ endGroup f c b cx
  t.ctxs = s.ctxs.set c.val (endedContext cx f ((getWin s b.win).defn.any (·.isolate))) c.isLt ∧
  t.pool = { s.pool with level := s.pool.level + cx.extents.length } ∧
  t.windows = s.windows.set b.win.val (endedWindow (getWin s b.win) f.state) b.win.isLt ∧
  reported t = reported s ++ records ∧ t.report.seq = s.report.seq + BitVec.ofNat 32 records.length ∧
  (∀ k : LaneId, getSlot t k = detachSlot c (getSlot s k) ∧
    getFence t k = (if (heldReadOf s c k).isSome then none else getFence s k) ∧
    getLane t k = (if (heldReadOf s c k).isSome then { getLane s k with head := none } else getLane s k)) ∧
  t.upOut = s.upOut ++ (if verified then [] else reads.map errorTo) ∧
  t.port = { s.port with
    q1 := s.port.q1 ++ (if verified then reads.map (forwardedReq · none) else [])
    q3 := s.port.q3 ++ ringWrites s t } ∧
  t.counters = { s.counters with
    reconDetached := min (s.counters.reconDetached + attachedCount s c) 4294967295
    partAnswers := if verified then s.counters.partAnswers else raisedBy s.counters.partAnswers reads.length
    fenceReleases := if verified then raisedBy s.counters.fenceReleases reads.length else s.counters.fenceReleases
    fenceFailures := if verified then s.counters.fenceFailures
      else raisedBy s.counters.fenceFailures reads.length } ∧
  ringSide t = ringSide s ∧
  (t.engine, t.stall, t.serial, t.builder, t.time) = (s.engine, s.stall, s.serial, s.builder, s.time) ∧
  (t.orders, t.sweeper, t.choices, t.pending) = (s.orders, s.sweeper, s.choices, s.pending)

/-- R50, R62: a VERIFIED context has become TAINTED, from the state `s` that the rest of its event leaves: nothing of it
changes but its state and second final state, and its second TRANSFER-END group is reported. -/
def TransferTainted (s t : State) (c : CtxId) (b : Binding) (cause : Cause) : Prop :=
  let f : FinalRec := { state := .tainted, cause := cause }
  t.ctxs = s.ctxs.set c.val { getCtx s c with state := .tainted, second := some f } c.isLt ∧
  reported t = reported s ++ endGroup f c b (getCtx s c) ∧ t.report.seq = s.report.seq + 3 ∧
  t.port = { s.port with q3 := s.port.q3 ++ ringWrites s t } ∧ ringSide t = ringSide s ∧
  laneSide t = laneSide s ∧ clockSide t = clockSide s ∧ (t.engine, t.orders) = (s.engine, s.orders) ∧
  (t.windows, t.serial, t.pool, t.builder, t.slots, t.fence) =
    (s.windows, s.serial, s.pool, s.builder, s.slots, s.fence)

/-- R33, R32: a draining window's entry after its last bound context has returned to FREE. -/
def drainedWindow (x : Window) (t : TakenDef) : Window :=
  { state := (match t with | .enabled _ => .active | .disabled => .off)
    defn := (match t with | .enabled d => some d | .disabled => none)
    staged := none, bound := 0, strikes := 0, counters := WinCounters.zero
    owedApplied := x.owedApplied, owedFenced := x.owedFenced }

/-! ### What a taken write does to its context and the pool (R70, R71, R73) -/

/-- R73: a context after the new pieces of a taken write are inserted and accounted. -/
def payloadTaken (cx : Context) (t : Touch) (data : List Byte) (v : Division) : Context :=
  { cx with
    idle := some t.d.idleLimit
    extents := if v.fresh = [] then cx.extents else insertRange t.lo v.stop cx.extents
    newBytes := min (cx.newBytes + totalLength v.fresh) 4294967295
    strayBytes := min (cx.strayBytes + v.stray) 4294967295
    acc := addPieces (cx.ladder.getD []) t.lo data v.fresh cx.acc }

/-- R70, R66: the pool after the new pieces of a taken write are inserted in a context's list. -/
def poolTaken (p : Pool) (cx : Context) (t : Touch) (v : Division) : Pool :=
  let level := p.level + meetCount t.lo v.stop cx.extents - 1
  if v.fresh = [] then p else { level := level, lowest := min p.lowest level }

/-- R71: no new piece is to be inserted, or the insertion replaces an extent, or the budget and the pool allow one
more. -/
def insertionFits (p : Pool) (cx : Context) (t : Touch) (v : Division) : Prop :=
  v.fresh = [] ∨ meetCount t.lo v.stop cx.extents ≠ 0 ∨ (cx.extents.length < t.d.budget ∧ p.level ≠ 0)

/-! ### What the end of a visit does (R154, R157) -/

/-- R154: the sweeper after a visit of the current bay has ended with these pass counts. -/
def sweptOn (s : State) (j : SweepJob) (x : Sweeper) : Sweeper :=
  if j.current = j.last then
    if j.mode = .repeating then
      { x with visit := none, checked := 0, failed := 0, skipped := 0, job := some { j with current := j.first } }
    else { x with visit := none, state := .idle, job := none }
  else
    { x with
      visit := none
      state := if j.mode = .step then .waitingStep else .running
      job := some { j with current := if j.current + 1 < bayCount s j.win then j.current + 1 else 0 } }

/-- R154, R160: the SWEEP-DONE of the last visit of a pass. -/
def passRecord (j : SweepJob) (x : Sweeper) : List Report :=
  if j.current = j.last then [.sweepDone .passEnd j.win x.checked x.failed x.skipped] else []

/-- What an event of the sweeper leaves as it was, but for the ring write of a record that leaves the pending list. -/
def SweepFrame (s t : State) (rs : List Report) : Prop :=
  reported t = reported s ++ rs ∧ t.report.seq = s.report.seq + BitVec.ofNat 32 rs.length ∧
  t.port = { s.port with q3 := s.port.q3 ++ ringWrites s t } ∧ ringSide t = ringSide s ∧ laneSide t = laneSide s ∧
  (t.engine, t.orders, t.time, t.counters) = (s.engine, s.orders, s.time, s.counters) ∧
  (t.serial, t.pool, t.builder, t.slots, t.fence) = (s.serial, s.pool, s.builder, s.slots, s.fence) ∧
  (t.choices, t.pending) = (s.choices, s.pending)

/-- R154, R157: a visit has ended with its bay checked or skipped, the pass counts now those of `x`. -/
def VisitOver (s t : State) (j : SweepJob) (x : Sweeper) : Prop :=
  SweepFrame s t (passRecord j x) ∧ t.sweeper = sweptOn s j x ∧ t.ctxs = s.ctxs ∧ t.windows = s.windows

/-- R157, R50: a visit has failed: its VERIFIED transfer is CORRUPTED, the window counts a strike, and the TRANSFER-END
group, after a WINDOW-FENCED, is followed by a RECHECK-FAIL. -/
def VisitFailed (s t : State) (c : CtxId) (b : Binding) (j : SweepJob) (cause : Cause) (recomputed : Option Nat) :
    Prop :=
  let cx := getCtx s c
  let f : FinalRec := { state := .corrupted, cause := cause }
  let x := { s.sweeper with failed := s.sweeper.failed + 1 }
  SweepFrame s t
    (fencedRecord (getWin s b.win) b.win .corrupted ++ endGroup f c b cx ++
      [.recheckFail cause c b.win b.bay b.number recomputed (cx.verifiedCheck.getD 0)] ++ passRecord j x) ∧
  t.sweeper = sweptOn s j x ∧ t.ctxs = s.ctxs.set c.val { cx with state := .corrupted, second := some f } c.isLt ∧
  t.windows = s.windows.set b.win.val (endedWindow (getWin s b.win) .corrupted) b.win.isLt

/-! ### What is owed (R62, R170) -/

/-- R62: the final states whose reports a context owes, oldest first. The last is its latest. -/
def owedFinals (cx : Context) : List FinalRec :=
  match cx.owed, cx.first with
  | n + 1, some f => List.replicate n f ++ [cx.second.getD f]
  | 0, _ => []
  | _ + 1, none => []

/-- R170: what is owed, in the order in which room is granted, each item the records that enter together. -/
def owedGroups (s : State) : List (List Report) :=
  (allWins.flatMap fun w =>
    (if (getWin s w).owedApplied then [[Report.windowApplied w (if (getWin s w).defn.isSome then .active else .off) none]]
      else []) ++
    (if (getWin s w).owedFenced then [[Report.windowFenced w (getWin s w).strikes]] else [])) ++
  (allCtxs.flatMap fun c => (owedFinals (getCtx s c)).map fun f =>
    (getCtx s c).binding.elim [] fun b => endGroup f c b (getCtx s c)) ++
  s.sweeper.waiting.map (fun r => [r]) ++ s.orders.waitingDone.toList.map fun r => [r]

/-- R170: the records that enter the list's free places, and the items still owed: the first that does not fit stops the
granting. -/
def granted : Nat → List (List Report) → List Report × List (List Report)
  | _, [] => ([], [])
  | free, g :: rest =>
    if g.length ≤ free then (g ++ (granted (free - g.length) rest).1, (granted (free - g.length) rest).2)
    else ([], g :: rest)

/-- An offset lies in one of these ranges. -/
def covered (ps : List Extent) (x : Nat) : Prop := ∃ p ∈ ps, p.start ≤ x ∧ x < p.stop

/-- The window and state that a WINDOW-APPLIED record reports. -/
def appliedWindow : Report → Option (WinId × WinState)
  | .windowApplied w st _ => some (w, st)
  | .startup _ _ => none
  | .orderDone _ _ _ _ _ _ => none
  | .transferEnd _ _ _ _ _ _ _ _ => none
  | .transferIds _ _ _ _ => none
  | .transferCounts _ _ _ _ _ _ => none
  | .recheckFail _ _ _ _ _ _ _ => none
  | .sweepDone _ _ _ _ _ => none
  | .windowFenced _ _ => none

/-- The held write or read of a lane whose head is held for one of these reasons, with its lane's number. -/
def heldRequest (s : State) (q : HoldReason → Bool) (l : LaneId) : Option Request :=
  match (getLane s l).head with
  | some { req := r, standing := .held h } => if q h then some r else none
  | some { req := _, standing := .fresh } => none
  | some { req := _, standing := .released } => none
  | none => none

/-- R129: the reasons whose heads are forwarded at the entry to HALTED. -/
def forwardedAtHalt : HoldReason → Bool
  | .priming => true
  | .reconcile => true
  | .conflict => true
  | .fence => false

/-- R128: the reasons whose heads are forwarded by CLEAR-ALL. -/
def forwardedAtClear : HoldReason → Bool
  | .priming => true
  | .reconcile => true
  | .conflict => false
  | .fence => false

/-- R181, R129: what the entry to HALTED, on the response to this issued request, leaves (the order of the answers is
the model's, log entry 14). -/
def HaltedFrom (s t : State) (id : Nat) : Prop :=
  t.engine = { s.engine with state := .halted, attn := false, faultN := false, load := .idle } ∧
  (∀ l : LaneId, (getLane t l).backlog = (getLane s l).backlog ∧
    (getLane t l).head = (if (getLane s l).head.any (·.hold.isSome) then none else (getLane s l).head)) ∧
  t.upOut = s.upOut ++ (allLanes.filterMap (heldRequest s (· == .fence))).map errorTo ∧
  t.port.q1 = s.port.q1 ++ (allLanes.filterMap (heldRequest s forwardedAtHalt)).map (forwardedReq · none) ∧
  t.port.q2 = [] ∧ t.port.q3 = [] ∧ t.port.q4 = [] ∧ t.port.nextId = s.port.nextId ∧
  t.port.outstanding = (s.port.outstanding.filter fun o => decide (o.id ≠ id)).map
    (orphanWhere fun o => !o.isForwarded) ∧
  t.builder = { building := none, queue := [] } ∧
  (∀ l : LaneId, getSlot t l = .empty ∧ getFence t l = none) ∧
  t.time = { s.time with running := false } ∧
  t.sweeper = { s.sweeper with visit := none, waiting := [] } ∧
  (t.stall, t.windows, t.ctxs, t.serial, t.pool) = (s.stall, s.windows, s.ctxs, s.serial, s.pool) ∧
  (t.report, t.orders, t.counters, t.choices, t.pending) = (s.report, s.orders, s.counters, s.choices, s.pending)

end Sys2Proof.Machine
end

