-- ==== Sys2Proof/Certificates/Slice0/Obligations.lean ====
section
/-! DEFINITION. The statements for the provers. -/

open Sys2Proof Sys2Proof.Machine

/-! ### Steps, reset and the start-up load -/

/-- A step takes the command at the front of the queue and is `exec` of it on the state with the queue's rest. -/
def Obligations.StepRunsFrontCommand : Prop :=
  ∀ (c : Instr) (rest : List Instr) (s : State),
    step { s with pending := c :: rest } = exec c { s with pending := rest }

/-- R141, R142: a microsecond step of a RUNNING Time Base raises the microsecond count, or returns it to 0 with a tick
when it reaches T; a STOPPED one does not advance. That a count left at or above a smaller T by its adoption (R143)
reaches it at the next step is the model's choice (log entry 33). With no command waiting a step is one REFCLK period,
the 100th of which is a microsecond step (the model's choice, log entry 7). -/
def Obligations.MicrosecondsAndIdleSteps : Prop :=
  ∀ s : State,
    (s.time.running = true → s.time.micros + 1 < s.time.interval →
      exec .microsecondStep s =
        .next { s with time := { s.time with micros := s.time.micros + 1, prescaler := 0 } }) ∧
    (s.time.running = true → s.time.interval ≤ s.time.micros + 1 →
      exec .microsecondStep s =
        .next { s with time := { s.time with micros := 0, prescaler := 0, ticksDue := s.time.ticksDue + 1 } }) ∧
    (s.time.running = false → exec .microsecondStep s = .next s) ∧
    (s.pending = [] → s.time.running = true → s.time.prescaler < 99 →
      step s = .next { s with time := { s.time with prescaler := s.time.prescaler + 1 } }) ∧
    (s.pending = [] → s.time.running = true → s.time.prescaler = 99 → step s = exec .microsecondStep s) ∧
    (s.pending = [] → s.time.running = false → step s = .next s)

/-- R179 and the table of section 12.5: RST_N taken low brings every block to its state after pin reset, from any state.
The command queue goes on (the model's own, log entry 4), and the attention enable is 0 (log entry 1). -/
def Obligations.PinResetLeavesTheTable : Prop :=
  ∀ s : State, ∃ t : State, exec .pinReset s = .next t ∧
    t.engine.state = .reset ∧ t.engine.attn = false ∧ t.engine.faultN = true ∧ t.engine.load = .idle ∧
    (∀ l : LaneId, (getLane t l).head = none ∧ (getLane t l).backlog = [] ∧ getSlot t l = .empty ∧
      getFence t l = none) ∧
    t.stall = none ∧ t.upOut = [] ∧
    (∀ w : WinId, getWin t w = Window.initial) ∧
    (∀ c : CtxId, getCtx t c = Context.free) ∧
    t.serial = 0 ∧ t.pool = { level := 2048, lowest := 2048 } ∧ t.builder = { building := none, queue := [] } ∧
    (t.time.running = false ∧ t.time.micros = 0 ∧ t.time.prescaler = 0 ∧ t.time.interval = 1 ∧ t.time.period = 0 ∧
      t.time.countdown = none ∧ t.time.pendingSettings = none) ∧
    (t.report.list = [] ∧ t.report.inFlight = none ∧ t.report.seq = 0 ∧ t.report.producer = 0 ∧
      t.report.consumer = 0 ∧ t.report.snapWriting = none ∧ t.report.snapRepeat = false ∧ t.report.snapNumber = 0 ∧
      t.report.badConsumer = 0 ∧ t.report.attnEnable = false) ∧
    t.orders = { shadow := [], slot := 0, lap := 1, examDue := false, waitingDone := none } ∧
    (t.sweeper.state = .idle ∧ t.sweeper.job = none ∧ t.sweeper.visit = none ∧ t.sweeper.waiting = [] ∧
      t.sweeper.checked = 0 ∧ t.sweeper.failed = 0 ∧ t.sweeper.skipped = 0) ∧
    t.counters = Counters.zero ∧
    (t.port.q1 = [] ∧ t.port.q2 = [] ∧ t.port.q3 = [] ∧ t.port.q4 = [] ∧ t.port.outstanding = []) ∧
    t.pending = s.pending

/-- Section 12.2, R179, R180: the release of RST_N samples the straps. BYPASS high gives BYPASSED; BYPASS low gives
LOADING with the 64 reads of the control page handed over in increasing address. Nothing else changes. -/
def Obligations.ResetReleaseSamplesStraps : Prop :=
  ∀ (cpb : BitVec 8) (s : State), s.engine.state = .reset →
    exec (.resetRelease true cpb) s =
      .next { s with engine := { s.engine with state := .bypassed, cpb := cpb } } ∧
    exec (.resetRelease false cpb) s =
      .next { s with
              engine := { s.engine with state := .loading, cpb := cpb, load := .reading 64 }
              port := { s.port with q3 := s.port.q3 ++ (List.range 64).map fun i =>
                { kind := .read, addr := BitVec.ofNat 40 (4294967296 * cpb.toNat + 256 * i), count := 256,
                  data := [], owner := .loadRead (256 * i) } } }

/-- R180, steps 1 and 2: an OKAY load read enters its software-owned bytes into the shadow. With the last of the reads
the order ring and the consumer count of the shadow become 0, the producer and consumer counts become 0, and the 41
clears are handed over: 8 over the order ring, 32 over the result ring, one over the two counts; that they enter class 3
in this order, each group in increasing address, is the model's choice (log entry 34), and so is that the examination-due
flag stays as it is (log entry 35). -/
def Obligations.LoadReadFillsTheShadow : Prop :=
  ∀ (id off left : Nat) (data : List Byte) (m : MemReq) (s : State),
    s.engine.load = .reading left → findIssued s id = some m → m.owner = .loadRead off → data.length = m.count →
    shadowWf s.orders.shadow = true →
    ∃ t : State, exec (.loadReadDone id data) s = .next t ∧
      (∀ x : Nat, readByte t.orders.shadow x =
        if left ≤ 1 ∧ (inRing x = true ∨ inConsumer x = true) then 0
        else if softwareOwned x = true ∧ off ≤ x ∧ x < off + data.length then data.getD (x - off) 0
        else readByte s.orders.shadow x) ∧
      t.orders = { s.orders with shadow := t.orders.shadow } ∧
      t.engine = { s.engine with load := if left ≤ 1 then .clearing 41 else .reading (left - 1) } ∧
      t.report = (if left ≤ 1 then { s.report with producer := 0, consumer := 0 } else s.report) ∧
      t.port = { s.port with
        outstanding := s.port.outstanding.filter fun o => decide (o.id ≠ id)
        q3 := s.port.q3 ++ (if left ≤ 1 then
          ((List.range 8).map fun i => loadClear s (0x800 + 256 * i) 256) ++
            ((List.range 32).map fun i => loadClear s (0x2000 + 256 * i) 256) ++ [loadClear s 0x40 8] else []) } ∧
      laneSide t = laneSide s ∧ trackSide t = trackSide s ∧ clockSide t = clockSide s

/-- R180, steps 2 to 6: an OKAY clear before the last only lowers the number awaited. The last of the 41 takes the
settings into force, makes ACTIVE each window whose enabled entry is valid, builds STARTUP with the number of them and
one WINDOW-APPLIED for each enabled entry in increasing window number, and makes the engine and the Time Base RUNNING.
The windows, the reports and the sweeper are as LOADING finds them. -/
def Obligations.LastClearStartsTheEngine : Prop :=
  ∀ (id left : Nat) (m : MemReq) (s : State),
    s.engine.load = .clearing left → findIssued s id = some m → m.owner = .loadClear →
    (1 < left → exec (.loadClearDone id) s =
      .next { s with
              engine := { s.engine with load := .clearing (left - 1) }
              port := { s.port with outstanding := s.port.outstanding.filter fun o => decide (o.id ≠ id) } }) ∧
    (left ≤ 1 → s.engine.state = .loading → s.report.list = [] → s.report.inFlight = none →
      (∀ w : WinId, getWin s w = Window.initial) → s.sweeper.job = none → nothingOwed s = true →
      ∃ t : State, exec (.loadClearDone id) s = .next t ∧
        t.engine = { s.engine with state := .running, load := .idle, attn := attnLevel t } ∧
        t.time = { s.time with
          running := true, micros := 0, prescaler := 0
          interval := (readSettings s).interval, period := (readSettings s).period
          countdown := if (readSettings s).period = 0 then none else some (readSettings s).period } ∧
        t.report.attnEnable = (readSettings s).attn ∧
        (∀ w : WinId,
          if readByte s.orders.shadow (0x400 + 64 * w.val) = 0 then getWin t w = Window.initial
          else if validate t w (takeDefinition (windowEntry s w)) = none then
            (getWin t w).state = .active ∧ (getWin t w).defn.map .enabled = takeDefinition (windowEntry s w) ∧
              (getWin t w).staged = none ∧ (getWin t w).strikes = 0 ∧ (getWin t w).counters = WinCounters.zero
          else getWin t w = Window.initial) ∧
        (reported t).head? = some (.startup s.engine.cpb
          (allWins.filter fun w => decide ((getWin t w).state = .active)).length) ∧
        (reported t).tail.map appliedWindow =
          (allWins.filter fun w => decide (readByte s.orders.shadow (0x400 + 64 * w.val) ≠ 0)).map
            (fun w => some (w, (getWin t w).state)) ∧
        t.orders.shadow = s.orders.shadow ∧ t.orders.slot = s.orders.slot ∧ t.orders.lap = s.orders.lap ∧
        t.ctxs = s.ctxs ∧ laneSide t = laneSide s)

/-- R178, R181: an ERROR to a record, producer word or status block write sends a RUNNING engine to HALTED, and an ERROR
to a load request sends a LOADING one there, with the entry's effects and no other. Forwarded heads enter
their queue in increasing lane number (section 12.1); the answers' order is the model's (log entry 14). -/
def Obligations.EngineErrorHalts : Prop :=
  ∀ (id : Nat) (m : MemReq) (s : State), findIssued s id = some m →
    (s.engine.state = .running → m.owner = .record ∨ m.owner = .producerWord ∨ m.owner = .statusBlock →
      ∃ t : State, exec (.engineWriteError id) s = .next t ∧ HaltedFrom s t id) ∧
    (s.engine.state = .loading → m.owner = .loadClear ∨ (∃ off : Nat, m.owner = .loadRead off) →
      ∃ t : State, exec (.loadError id) s = .next t ∧ HaltedFrom s t id)

/-! ### Lanes -/

/-- R116, R117: what an arrival does while the engine is RUNNING: it becomes the head of an empty lane, is appended to a
backlog below 8, or stalls the link where the head is held or released and the backlog holds 8. On a stalled link, and in
RESET and LOADING, nothing is accepted. R119: where a lane has no head, the first request of its backlog becomes the head,
and a stall that names the lane ends in that event, its waiting request appended to the backlog. That the moving up is a
head event of its own, and that a lane with a backlog of 8 and no held or released head moves on before the arrival is
appended, is the model's choice (log entry 6). -/
def Obligations.ArrivalOnALane : Prop :=
  ∀ (r : Request) (s : State), r.wf = true →
    let x := getLane s r.lane
    let lanes := fun y : Lane => s.lanes.set r.lane.val y r.lane.isLt
    (s.stall.isSome = true ∨ s.engine.state = .reset ∨ s.engine.state = .loading →
      exec (.requestArrival r) s = .next s) ∧
    (s.engine.state = .running → s.stall = none →
      (x.head = none → x.backlog = [] →
        exec (.requestArrival r) s =
          .next { s with lanes := lanes { head := some { req := r, standing := .fresh }, backlog := [] } }) ∧
      (x.head.isSome = true ∨ x.backlog ≠ [] → x.backlog.length < 8 →
        exec (.requestArrival r) s = .next { s with lanes := lanes { x with backlog := x.backlog ++ [r] } }) ∧
      (x.head.any (fun h => decide (h.standing ≠ .fresh)) = true → x.backlog.length = 8 →
        exec (.requestArrival r) s =
          .next { s with
                  stall := some { lane := r.lane, waiting := r }
                  counters := { s.counters with
                    upstreamStalls := min (s.counters.upstreamStalls + 1) 4294967295 } }) ∧
      (∀ (q : Request) (rest : List Request), x.head = none → x.backlog = q :: rest → rest.length = 7 →
        exec (.requestArrival r) s =
          .next { s with
                  lanes := lanes { head := some { req := q, standing := .fresh }, backlog := rest ++ [r] } }) ∧
      (∀ q : Request, x.head = some { req := q, standing := .fresh } → x.backlog.length = 8 →
        ∃ t : State, exec (.headEvent r.lane) s = .next t ∧
          exec (.requestArrival r) s = exec (.requestArrival r) t)) ∧
    (∀ (l : LaneId) (rest : List Request),
      (getLane s l).head = none → (getLane s l).backlog = r :: rest → rest.length < 8 →
      (∀ st : Stall, s.stall = some st → st.lane = l →
        exec (.headEvent l) s =
          .next { s with
                  stall := none
                  lanes := s.lanes.set l.val
                    { head := some { req := r, standing := .fresh }, backlog := rest ++ [st.waiting] } l.isLt }) ∧
      (s.stall.all (fun st => decide (st.lane ≠ l)) = true →
        exec (.headEvent l) s =
          .next { s with
                  lanes := s.lanes.set l.val
                    { head := some { req := r, standing := .fresh }, backlog := rest } l.isLt }))

/-- R129, R130: in HALTED and BYPASSED a request is accepted onto its lane and forwarded unchanged at its head, with no
test, hold or count. -/
def Obligations.PassingStatesForward : Prop :=
  ∀ (r : Request) (l : LaneId) (s : State), s.engine.state = .halted ∨ s.engine.state = .bypassed →
    (awaits s l r →
      exec (.headEvent l) s =
        .next { s with lanes := headGone s l, port := portWith s (forwardedReq r none) }) ∧
    (r.wf = true → s.stall = none → (getLane s r.lane).head = none → (getLane s r.lane).backlog = [] →
      exec (.requestArrival r) s =
        .next { s with
                lanes := s.lanes.set r.lane.val
                  { head := some { req := r, standing := .fresh }, backlog := [] } r.lane.isLt }) ∧
    (r.wf = true → s.stall = none →
      (getLane s r.lane).head.isSome = true ∨ (getLane s r.lane).backlog ≠ [] →
      (getLane s r.lane).backlog.length < 8 →
      exec (.requestArrival r) s =
        .next { s with
                lanes := s.lanes.set r.lane.val
                  { getLane s r.lane with backlog := (getLane s r.lane).backlog ++ [r] } r.lane.isLt })

/-- R110, R118: the conflict test comes before any other treatment: a conflicting request is held and counted. One that
does not conflict and is of class OUTSIDE, or a CONTROL read, is forwarded unchanged and counted nowhere. -/
def Obligations.ConflictHoldOrPlainForward : Prop :=
  ∀ (l : LaneId) (r : Request) (s : State), RestInv s → s.engine.state = .running →
    awaits s l r →
    (conflicts s l r = true →
      exec (.headEvent l) s =
        .next { s with
                lanes := headHeld s l r .conflict
                counters := { s.counters with
                  conflictHolds := min (s.counters.conflictHolds + 1) 4294967295 } }) ∧
    (conflicts s l r = false → classify s r = .outside ∨ (classify s r = .control ∧ r.kind = .read) →
      exec (.headEvent l) s =
        .next { s with lanes := headGone s l, port := portWith s (forwardedReq r none) })

/-- R163, R164: a CONTROL write is forwarded, and each of its bytes at a software-owned offset replaces the shadow's
byte. A byte in the order ring makes an examination due; one in the consumer count hands over the four consumer bytes as
they then stand. It has no other effect. -/
def Obligations.ControlWriteCopiesItsBytes : Prop :=
  ∀ (l : LaneId) (r : Request) (s : State), RestInv s → HeadDue s l r → shadowWf s.orders.shadow = true →
    classify s r = .control → r.kind = .write → r.data.length = r.count →
    ∃ t : State, exec (.headEvent l) s = .next t ∧
      (∀ x : Nat, readByte t.orders.shadow x =
        if softwareOwned x = true ∧ r.addr.toNat ≤ pageBase s + x ∧ pageBase s + x < r.addr.toNat + r.count then
          r.data.getD (pageBase s + x - r.addr.toNat) 0
        else readByte s.orders.shadow x) ∧
      t.orders = { s.orders with
        shadow := t.orders.shadow
        examDue := s.orders.examDue ||
          rangesMeet r.addr.toNat (r.addr.toNat + r.count) (pageBase s + 0x800) (pageBase s + 0x1000) } ∧
      t.report = { s.report with
        consumerIn := if rangesMeet r.addr.toNat (r.addr.toNat + r.count) (pageBase s + 0x40) (pageBase s + 0x44)
          then s.report.consumerIn ++ [BitVec.ofNat 32 (leNat (readBytes t.orders.shadow 0x40 4))]
          else s.report.consumerIn } ∧
      t.lanes = headGone s l ∧ t.port = portWith s (forwardedReq r none) ∧ t.engine = s.engine ∧
      t.stall = s.stall ∧ t.upOut = s.upOut ∧ trackSide t = trackSide s ∧ clockSide t = clockSide s

/-! ### Writes of one bay -/

/-- R68 to R73, R12, R90, R145, R98 to R100: a payload write into the bay of a COLLECTING transfer. With no overlapped
byte, or under TRUST, its new pieces, if any, are inserted, counted and added to the accumulator, overlapped bytes are
counted as trusted, and the write, wholly stray or not, is forwarded as a tracked write; where its last new piece completes
the coverage of a taken trailer and no reconcile is in flight, the verdict follows. Where the insertion cannot be made
the write is forwarded and the transfer is LOST, EXTENT-BUDGET before POOL-EMPTY. An overlapped byte under REJECT: the
write is answered ERROR, counted in its context and its window, and nothing of it is accounted. The idle count is
reloaded in each. (Where the transfer ends, nothing is owed and the records have room.) -/
def Obligations.PayloadWriteIsTaken : Prop :=
  ∀ (l : LaneId) (r : Request) (t : Touch) (c : CtxId) (b : Binding) (s : State), RestInv s → HeadDue s l r →
    r.kind = .write → classify s r = .payload t ∨ classify s r = .both t → lookup s t.win t.bay = some c →
    (getCtx s c).state = .collecting → (getCtx s c).isolated = false → (getCtx s c).binding = some b →
    let cx := getCtx s c
    let v := divide cx.extents cx.len t.lo (min t.hi t.d.capacity - t.lo)
    let taken := payloadTaken cx t r.data v
    let sent := { s with lanes := headGone s l, port := portWith s (forwardedReq r (some (c, b.number))) }
    let room := nothingOwed s = true ∧ s.report.list.length + 4 ≤ 32
    (classify s r = .payload t → v.overlap = [] ∨ t.d.overlap = .trust → insertionFits s.pool cx t v →
      let after := { sent with
        pool := poolTaken s.pool cx t v
        ctxs := s.ctxs.set c.val taken c.isLt
        counters := { s.counters with
          trustedBytes := if v.overlap = [] then s.counters.trustedBytes
            else min (s.counters.trustedBytes + totalLength v.overlap) 4294967295 } }
      (v.fresh = [] ∨ cx.taken = none ∨ complete taken.extents cx.len = false ∨ cx.reconCount ≠ 0 →
        exec (.headEvent l) s = .next after) ∧
      (v.fresh ≠ [] → cx.taken.isSome = true → complete taken.extents cx.len = true → cx.reconCount = 0 → room →
        ∃ u : State, exec (.headEvent l) s = .next u ∧
          TransferEnded after u c b
            (if cx.chk = some taken.acc then { state := .verified, cause := .checkEqual }
              else { state := .mismatch, cause := .checkUnequal }))) ∧
    (v.overlap = [] ∨ t.d.overlap ≠ .reject → v.fresh ≠ [] → meetCount t.lo v.stop cx.extents = 0 → room →
      t.d.budget ≤ cx.extents.length ∨ s.pool.level = 0 →
      ∃ u : State, exec (.headEvent l) s = .next u ∧
        TransferEnded { sent with ctxs := s.ctxs.set c.val { cx with idle := some t.d.idleLimit } c.isLt } u c b
          { state := .lost, cause := if t.d.budget ≤ cx.extents.length then .extentBudget else .poolEmpty }) ∧
    (v.overlap ≠ [] → t.d.overlap = .reject →
      exec (.headEvent l) s =
        .next { s with
                lanes := headGone s l
                upOut := s.upOut ++ [errorTo r]
                counters := { s.counters with partAnswers := min (s.counters.partAnswers + 1) 4294967295 }
                windows := s.windows.set t.win.val
                  { getWin s t.win with
                    counters := { (getWin s t.win).counters with
                      rejected := min ((getWin s t.win).counters.rejected + 1) 4294967295 } } t.win.isLt
                ctxs := s.ctxs.set c.val
                  { cx with idle := some t.d.idleLimit, rejWrites := min (cx.rejWrites + 1) 4294967295 } c.isLt })

/-- R102, R73, R74: under RECONCILE a taken payload write with overlapped pieces is held for reconcile. Its new pieces are
inserted and accounted, its lane's slot is ATTACHED, the reconcile count rises, and the read of the span is handed over.
A row-5 write does the same, and its trailer bytes are kept. (Of a row-5 write: the trailer is not taken, and its bytes do
not fill the mask.) -/
def Obligations.OverlapBeginsReconcile : Prop :=
  ∀ (l : LaneId) (r : Request) (t : Touch) (c : CtxId) (s : State), RestInv s → HeadDue s l r →
    r.kind = .write → lookup s t.win t.bay = some c →
    classify s r = .payload t ∨ (classify s r = .both t ∧ (getCtx s c).taken = none ∧
      maskFull (mergeTrailer (getCtx s c).shadow t r.data) = false) →
    (getCtx s c).state = .collecting → (getCtx s c).isolated = false → t.d.overlap = .reconcile →
    let cx := getCtx s c
    let v := divide cx.extents cx.len t.lo (min t.hi t.d.capacity - t.lo)
    v.overlap ≠ [] → insertionFits s.pool cx t v →
    exec (.headEvent l) s =
      .next { s with
              lanes := headHeld s l r .reconcile
              slots := s.slots.set l.val
                (.attached c { write := r, offset := t.lo, pieces := v.overlap, span := spanOf v.overlap,
                               standing := .waiting }) l.isLt
              pool := poolTaken s.pool cx t v
              port := { s.port with q2 := s.port.q2 ++
                [{ kind := .read, addr := BitVec.ofNat 40 (t.d.bayBase t.bay + (spanOf v.overlap).start),
                   count := (spanOf v.overlap).stop - (spanOf v.overlap).start, data := [],
                   owner := .reconcile l }] }
              counters := { s.counters with reconBegun := min (s.counters.reconBegun + 1) 4294967295 }
              ctxs := s.ctxs.set c.val
                { payloadTaken cx t r.data v with
                  shadow := if t.hasTrailer then mergeTrailer cx.shadow t r.data else cx.shadow
                  reconCount := cx.reconCount + 1 } c.isLt }

/-- R46, R43, R57, R58: a write into a bay whose transfer is PRIMING is held. One into an unbound bay opens a transfer
of the lowest-numbered FREE context and is held, where the window is ACTIVE, not draining, and has auto-open set; it is
forwarded untracked and counted where no context is FREE, or where one of the three conditions fails. -/
def Obligations.WritesBeforeCollecting : Prop :=
  ∀ (l : LaneId) (r : Request) (t : Touch) (s : State), RestInv s → AccumulatorInv s → HeadDue s l r →
    r.kind = .write → OneBay s r t → t.significant = true →
    let w := getWin s t.win
    let held := { s.counters with primingHolds := min (s.counters.primingHolds + 1) 4294967295 }
    (∀ c : CtxId, lookup s t.win t.bay = some c → (getCtx s c).state = .priming →
      (getCtx s c).isolated = false →
      exec (.headEvent l) s = .next { s with lanes := headHeld s l r .priming, counters := held }) ∧
    (lookup s t.win t.bay = none → w.state = .active → w.draining = false → t.d.autoOpen = true →
      (∀ c : CtxId, lowestFree s = some c →
        exec (.headEvent l) s =
          .next { s with
                  lanes := headHeld s l r .priming
                  counters := held
                  serial := s.serial + 1
                  builder := if s.builder.building.isNone then { s.builder with building := some c }
                    else { s.builder with queue := s.builder.queue ++ [c] }
                  windows := s.windows.set t.win.val
                    { w with bound := w.bound + 1,
                             counters := { w.counters with opened := min (w.counters.opened + 1) 4294967295 } }
                    t.win.isLt
                  ctxs := s.ctxs.set c.val
                    { Context.free with
                      state := .priming
                      binding := some { number := s.serial + 1, win := t.win, bay := t.bay,
                                        key := t.d.defaultKey.toNat % P } } c.isLt }) ∧
      (lowestFree s = none →
        exec (.headEvent l) s =
          .next { s with
                  lanes := headGone s l, port := portWith s (forwardedReq r none)
                  windows := s.windows.set t.win.val
                    { w with counters := { w.counters with
                      tableFull := min (w.counters.tableFull + 1) 4294967295 } } t.win.isLt })) ∧
    (lookup s t.win t.bay = none → w.state ≠ .active ∨ w.draining = true ∨ t.d.autoOpen = false →
      exec (.headEvent l) s =
        .next { s with
                lanes := headGone s l, port := portWith s (forwardedReq r none)
                windows := s.windows.set t.win.val
                  { w with counters := { w.counters with
                    untracked := min (w.counters.untracked + 1) 4294967295 } } t.win.isLt })

/-- R83 to R87, R74, R89, R90, R18: a trailer write into the bay of a COLLECTING transfer, alone or as the trailer piece of
a row-5 write whose payload bytes, all new or stray, are accounted first. The trailer not taken: while the mask is not
full its bytes are kept; a full mask whose trailer fails a check makes the transfer REFUSED with the check's cause; one
that passes is taken, and where the coverage is then complete and no reconcile is in flight the verdict follows, VERIFIED
if the accumulator equals E and MISMATCH otherwise. The trailer taken: bytes that decode to it are kept, a verdict
following only from payload bytes; others make the transfer LOST, cause TRAILER-CONFLICT. (Where the transfer ends,
nothing is owed and the records have room.) -/
def Obligations.TrailerDecides : Prop :=
  ∀ (l : LaneId) (r : Request) (u : Touch) (c : CtxId) (b : Binding) (s : State), RestInv s → HeadDue s l r →
    r.kind = .write → classify s r = .trailer u ∨ classify s r = .both u → u.significant = true →
    lookup s u.win u.bay = some c → (getCtx s c).state = .collecting → (getCtx s c).isolated = false →
    (getCtx s c).binding = some b →
    let old := getCtx s c
    let v := divide old.extents old.len u.lo (min u.hi u.d.capacity - u.lo)
    (u.hasPayload = true → v.overlap = [] ∧ insertionFits s.pool old u v) →
    let cx : Context :=
      { (if u.hasPayload then payloadTaken old u r.data v else { old with idle := some u.d.idleLimit }) with
        shadow := mergeTrailer old.shadow u r.data }
    let tr := decodeTrailer u.d.order (shadowBytes cx.shadow)
    let taken := { cx with taken := some tr, len := some tr.len.toNat, chk := some tr.chk.toNat,
                           objId := some tr.objId, tflags := some tr.flags }
    let after : Context → State := fun x =>
      { s with
        lanes := headGone s l, port := portWith s (forwardedReq r (some (c, b.number)))
        pool := if u.hasPayload then poolTaken s.pool old u v else s.pool
        ctxs := s.ctxs.set c.val x c.isLt }
    let room := nothingOwed s = true ∧ s.report.list.length + 4 ≤ 32
    let ends : Context → FinalRec → Prop := fun x f =>
      ∃ t : State, exec (.headEvent l) s = .next t ∧ TransferEnded (after x) t c b f
    let verdict : Context → FinalRec := fun x =>
      if x.chk = some x.acc then { state := .verified, cause := .checkEqual }
      else { state := .mismatch, cause := .checkUnequal }
    (old.taken = none → maskFull cx.shadow = false → exec (.headEvent l) s = .next (after cx)) ∧
    (old.taken = none → maskFull cx.shadow = true →
      (∀ cause : Cause, trailerRefusal u.d cx tr = some cause → room →
        ends cx { state := .refused, cause := cause }) ∧
      (trailerRefusal u.d cx tr = none →
        (complete cx.extents taken.len = false ∨ cx.reconCount ≠ 0 → exec (.headEvent l) s = .next (after taken)) ∧
        (complete cx.extents taken.len = true → cx.reconCount = 0 → room → ends taken (verdict taken)))) ∧
    (∀ kept : Trailer, old.taken = some kept →
      (tr ≠ kept → room → ends cx { state := .lost, cause := .trailerConflict }) ∧
      (tr = kept → u.hasPayload = false ∨ v.fresh = [] ∨ complete cx.extents cx.len = false ∨ cx.reconCount ≠ 0 →
        exec (.headEvent l) s = .next (after cx)) ∧
      (tr = kept → u.hasPayload = true → v.fresh ≠ [] → complete cx.extents cx.len = true → cx.reconCount = 0 → room →
        ends cx (verdict cx)))

/-- R50, R57, R58, R94, R95, R62: a write of one bay whose transfer has ended, forwarded untracked. Into a VERIFIED bay a
payload write makes the transfer TAINTED, cause PAYLOAD-WRITE; a trailer write keeps its bytes, and makes it TAINTED,
cause TRAILER-WRITE, unless they decode to the trailer taken. Its accumulator, verified check value, L, E and object id
stay, and no strike is counted; its second TRANSFER-END group follows the records reported before, or, where the pending
list has no room for the three records, the context owes it. (No visit of the bay is in progress.) In another final state
a payload write is counted as an after-end write and a trailer write changes nothing; in GUARD either is counted late. A
write of trailer bytes 32 to 63 alone into a bound bay, whatever its transfer's state, is forwarded untracked and changes
nothing; that this holds of a COLLECTING transfer too is the model's choice (log entry 15). -/
def Obligations.PayloadWriteTaints : Prop :=
  ∀ (l : LaneId) (r : Request) (u : Touch) (c : CtxId) (b : Binding) (s : State), RestInv s → HeadDue s l r →
    r.kind = .write → OneBay s r u → lookup s u.win u.bay = some c → (getCtx s c).isolated = false →
    (getCtx s c).binding = some b →
    let cx := getCtx s c
    let kept := { cx with shadow := mergeTrailer cx.shadow u r.data }
    let sent := { s with lanes := headGone s l, port := portWith s (forwardedReq r none) }
    let after : Context → State := fun x => { sent with ctxs := s.ctxs.set c.val x c.isLt }
    let tainted : Context → Cause → Prop := fun x cause =>
      (nothingOwed s = true → s.report.list.length + 3 ≤ 32 →
        ∃ t : State, exec (.headEvent l) s = .next t ∧ TransferTainted (after x) t c b cause) ∧
      (hasRoom s 3 = false →
        exec (.headEvent l) s =
          .next (after { x with
            state := .tainted, second := some { state := .tainted, cause := cause }, owed := cx.owed + 1 }))
    (cx.state = .verified → u.significant = true → s.sweeper.visit.all (fun v => decide (v.ctx ≠ c)) = true →
      (u.hasPayload = true → tainted cx .payloadWrite) ∧
      (u.hasPayload = false → cx.taken ≠ some (decodeTrailer u.d.order (shadowBytes kept.shadow)) →
        tainted kept .trailerWrite) ∧
      (u.hasPayload = false → cx.taken = some (decodeTrailer u.d.order (shadowBytes kept.shadow)) →
        exec (.headEvent l) s = .next (after kept))) ∧
    (cx.state.isFinal = true → cx.state ≠ .verified → u.significant = true →
      exec (.headEvent l) s =
        .next (if u.hasPayload then after { cx with afterEnd := min (cx.afterEnd + 1) 4294967295 } else sent)) ∧
    (cx.state = .guard → u.significant = true →
      exec (.headEvent l) s =
        .next { sent with
                windows := s.windows.set u.win.val
                  { getWin s u.win with
                    counters := { (getWin s u.win).counters with
                      late := min ((getWin s u.win).counters.late + 1) 4294967295 } } u.win.isLt }) ∧
    (u.significant = false → exec (.headEvent l) s = .next sent)

/-- R51, R59, R132, R133, R134, R144: a request of a bay whose transfer is isolated is answered ERROR. A payload read of
another bay of a FENCE window is answered ERROR where the bay is unbound, in GUARD, or in a final state other than
VERIFIED; held, with a record of its hold limit, which no tick delivered before lowers (the mark of a delivered tick is
the model's own, log entry 8), where the transfer is PRIMING or COLLECTING; and forwarded where it is VERIFIED. A payload
read of a PASS window and a trailer read are forwarded. R27: a STRADDLE read is answered ERROR where it has a byte in an
isolated bay and forwarded otherwise, and counted once in each window that it has a byte in. -/
def Obligations.IsolationAndReadFence : Prop :=
  ∀ (l : LaneId) (r : Request) (t : Touch) (s : State), RestInv s → HeadDue s l r →
    let answered := { s.counters with partAnswers := min (s.counters.partAnswers + 1) 4294967295 }
    let found := bayState s t.win t.bay
    (OneBay s r t → bayIsolated s t.win t.bay = true →
      exec (.headEvent l) s =
        .next { s with lanes := headGone s l, upOut := s.upOut ++ [errorTo r], counters := answered }) ∧
    (r.kind = .read → OneBay s r t → bayIsolated s t.win t.bay = false →
      t.hasPayload = false ∨ t.d.readPolicy = .pass →
      exec (.headEvent l) s =
        .next { s with lanes := headGone s l, port := portWith s (forwardedReq r none) }) ∧
    (r.kind = .read → classify s r = .payload t ∨ classify s r = .both t → t.d.readPolicy = .fence →
      bayIsolated s t.win t.bay = false →
      (found = none ∨ found = some .guard ∨ (found ≠ some .verified ∧ found.any CtxState.isFinal = true) →
        exec (.headEvent l) s =
          .next { s with
                  lanes := headGone s l, upOut := s.upOut ++ [errorTo r]
                  counters := { answered with
                    fenceRefusals := min (s.counters.fenceRefusals + 1) 4294967295 } }) ∧
      (∀ c : CtxId, lookup s t.win t.bay = some c → found = some .priming ∨ found = some .collecting →
        exec (.headEvent l) s =
          .next { s with
                  lanes := headHeld s l r .fence
                  time := { s.time with readDue := s.time.readDue.set l.val false l.isLt }
                  fence := s.fence.set l.val
                    (some { win := t.win, bay := t.bay, ctx := c, hold := t.d.holdLimit }) l.isLt
                  counters := { s.counters with
                    fenceHolds := min (s.counters.fenceHolds + 1) 4294967295 } }) ∧
      (found = some .verified →
        exec (.headEvent l) s =
          .next { s with lanes := headGone s l, port := portWith s (forwardedReq r none) })) ∧
    (∀ ts : List Touch, r.kind = .read → classify s r = .straddle ts →
      let isolated := ts.any fun x => bayIsolated s x.win x.bay
      ∃ u : State, exec (.headEvent l) s = .next u ∧
        (∀ w : WinId, getWin u w =
          if ts.any (fun x => decide (x.win = w)) then
            { getWin s w with counters := { (getWin s w).counters with
              straddleReads := min ((getWin s w).counters.straddleReads + 1) 4294967295 } }
          else getWin s w) ∧
        u.lanes = headGone s l ∧ u.upOut = (if isolated then s.upOut ++ [errorTo r] else s.upOut) ∧
        u.port = (if isolated then s.port else portWith s (forwardedReq r none)) ∧
        u.counters = (if isolated then answered else s.counters) ∧
        (u.engine, u.stall, u.ctxs, u.serial, u.pool, u.builder) =
          (s.engine, s.stall, s.ctxs, s.serial, s.pool, s.builder) ∧
        (u.slots, u.fence, u.time, u.report, u.orders, u.sweeper, u.choices, u.pending) =
          (s.slots, s.fence, s.time, s.report, s.orders, s.sweeper, s.choices, s.pending))

/-- R26: a STRADDLE write with a byte in an isolated bay is answered ERROR, and otherwise one that touches a PRIMING
transfer's bay is held for PRIMING. Any other that touches one bay is forwarded untracked: a COLLECTING transfer becomes
LOST, cause STRADDLE, its extents return to the pool, and its accumulator stays; a VERIFIED one becomes TAINTED; an
after-end write is counted in another final state, and a late write in GUARD. The straddle-writes counter of the window
is raised where the write is answered or forwarded. No other context changes. (In these clauses the one bay is the
write's only one; in the LOST and TAINTED clauses nothing is owed, the records have room, and no visit of the bay is in
progress.) -/
def Obligations.StraddleWriteLoses : Prop :=
  ∀ (l : LaneId) (r : Request) (u : Touch) (s : State), RestInv s → HeadDue s l r → r.wf = true → r.kind = .write →
    classify s r = .straddle [u] → inPage s r.addr.toNat r.count = false →
    let w := getWin s u.win
    let counted := { w.counters with straddleWrites := min (w.counters.straddleWrites + 1) 4294967295 }
    let windows := fun k : WinCounters => s.windows.set u.win.val { w with counters := k } u.win.isLt
    let sent := { s with
      lanes := headGone s l, port := portWith s (forwardedReq r none), windows := windows counted }
    (bayIsolated s u.win u.bay = true →
      exec (.headEvent l) s =
        .next { s with
                lanes := headGone s l, upOut := s.upOut ++ [errorTo r], windows := windows counted
                counters := { s.counters with partAnswers := min (s.counters.partAnswers + 1) 4294967295 } }) ∧
    (bayIsolated s u.win u.bay = false → u.significant = true →
      (bayState s u.win u.bay = some .priming →
        exec (.headEvent l) s =
          .next { s with
                  lanes := headHeld s l r .priming
                  counters := { s.counters with
                    primingHolds := min (s.counters.primingHolds + 1) 4294967295 } }) ∧
      (bayState s u.win u.bay = none → exec (.headEvent l) s = .next sent) ∧
      (∀ c : CtxId, lookup s u.win u.bay = some c →
        let cx := getCtx s c
        (∀ b : Binding, cx.state = .collecting → cx.binding = some b → nothingOwed s = true →
          s.report.list.length + 4 ≤ 32 →
          ∃ t : State, exec (.headEvent l) s = .next t ∧
            TransferEnded sent t c b { state := .lost, cause := .straddle }) ∧
        (∀ b : Binding, cx.state = .verified → cx.binding = some b → nothingOwed s = true →
          s.report.list.length + 3 ≤ 32 → s.sweeper.visit.all (fun v => decide (v.ctx ≠ c)) = true →
          ∃ t : State, exec (.headEvent l) s = .next t ∧ TransferTainted sent t c b .straddle) ∧
        (cx.state.isFinal = true → cx.state ≠ .verified →
          exec (.headEvent l) s =
            .next { sent with
                    ctxs := s.ctxs.set c.val { cx with afterEnd := min (cx.afterEnd + 1) 4294967295 } c.isLt }) ∧
        (cx.state = .guard →
          exec (.headEvent l) s =
            .next { sent with windows := windows { counted with late := min (counted.late + 1) 4294967295 } })))

/-! ### Responses and the memory link -/

/-- R124, R125, R61: a forwarded request's response is relayed with its lane and identifier, status and data unchanged.
An ERROR while RUNNING is counted. That the relayed response stands first among the answers of its event is the model's
choice (log entry 14). An ERROR to a tracked write makes its transfer LOST, cause MEMORY-ERROR, where the
named context holds the transfer number and is COLLECTING, and is discarded otherwise. (In the LOST clause nothing is
owed and the records have room.) -/
def Obligations.ResponsesAreRelayed : Prop :=
  ∀ (id : Nat) (resp : MemResp) (m : MemReq) (f : FwdRecord) (s : State), RestInv s →
    findIssued s id = some m → m.owner = .forwarded f → respFits m resp = true →
    let port := { s.port with outstanding := s.port.outstanding.filter fun o => decide (o.id ≠ id) }
    let up := s.upOut ++ [{ lane := f.lane, ident := f.ident, resp := resp }]
    let reached := f.tracked.any fun x =>
      decide ((getCtx s x.1).binding.map (·.number) = some x.2) && decide ((getCtx s x.1).state = .collecting)
    (resp ≠ .error ∨ s.engine.state ≠ .running →
      exec (.responseRelay id resp) s = .next { s with port := port, upOut := up }) ∧
    (resp = .error → s.engine.state = .running → reached = false →
      exec (.responseRelay id resp) s =
        .next { s with port := port, upOut := up, counters := { s.counters with
          memErrors := min (s.counters.memErrors + 1) 4294967295 } }) ∧
    (∀ x : CtxId × Word32, f.tracked = some x → resp = .error → s.engine.state = .running → reached = true →
      nothingOwed s = true → s.report.list.length + 4 ≤ 32 →
      ∃ t : State, exec (.responseRelay id resp) s = .next t ∧
        t.ctxs = s.ctxs.set x.1.val
          { getCtx s x.1 with
            state := .lost, first := some { state := .lost, cause := .memoryError }, idle := none
            reconCount := 0, extents := [] } x.1.isLt ∧
        t.pool = { s.pool with level := s.pool.level + (getCtx s x.1).extents.length } ∧
        t.upOut.take (s.upOut.length + 1) = up ∧ t.port.outstanding = port.outstanding ∧
        t.counters.memErrors = min (s.counters.memErrors + 1) 4294967295 ∧
        (∀ k : LaneId, (getSlot t k).attachedTo x.1 = false ∧ (getFence t k).all (fun g => decide (g.ctx ≠ x.1 ∨
          (getLane s k).head = none)) = true) ∧
        t.serial = s.serial ∧ t.builder = s.builder ∧ t.time = s.time ∧ t.sweeper = s.sweeper ∧
        t.orders.shadow = s.orders.shadow)

/-- R176, R177: the first request of the lowest-numbered class whose queue is not empty is issued, with its owner; that it
is issued under the next number is the model's choice (log entry 4). R103, R156: a reconcile slot or a visit notes the
issue of its read. The answer to an orphan only removes it. -/
def Obligations.IssueAndOrphans : Prop :=
  ∀ (r : MemReq) (rest : List MemReq) (s : State),
    let out := s.port.outstanding ++ [{ id := s.port.nextId, req := r }]
    let next := s.port.nextId + 1
    (s.port.q1 = r :: rest → r.owner.isForwarded = true →
      exec .memoryIssue s =
        .next { s with port := { s.port with q1 := rest, outstanding := out, nextId := next } }) ∧
    (∀ l : LaneId, s.port.q1 = [] → s.port.q2 = r :: rest → r.owner = .reconcile l →
      exec .memoryIssue s =
        .next { s with
                port := { s.port with q2 := rest, outstanding := out, nextId := next }
                slots := s.slots.set l.val (markSlot (getSlot s l)) l.isLt }) ∧
    (s.port.q1 = [] → s.port.q2 = [] → s.port.q3 = r :: rest →
      r.owner.isReconcile = false → r.owner.isRecheck = false →
      exec .memoryIssue s =
        .next { s with port := { s.port with q3 := rest, outstanding := out, nextId := next } }) ∧
    (s.port.q1 = [] → s.port.q2 = [] → s.port.q3 = [] → s.port.q4 = r :: rest →
      ∀ off : Nat, r.owner = .recheck off →
      exec .memoryIssue s =
        .next { s with
                port := { s.port with q4 := rest, outstanding := out, nextId := next }
                sweeper := { s.sweeper with visit := s.sweeper.visit.map (markVisit off) } }) ∧
    (∀ (id : Nat) (resp : MemResp), (findIssued s id).map (·.owner) = some .orphan →
      exec (.orphanResponse id resp) s =
        .next { s with port := { s.port with
          outstanding := s.port.outstanding.filter fun o => decide (o.id ≠ id) } })

/-! ### Orders -/

/-- R172: a written consumer value v is taken when (producer - v) mod 2^32 is at most 256 - w, where w is 1 while a
record write is in flight; the consumer count becomes v and ATTN is evaluated. Otherwise it is refused and counted. -/
def Obligations.ConsumerValueIsTested : Prop :=
  ∀ (v : Word32) (rest : List Word32) (s : State), RestInv s → s.engine.state = .running →
    s.report.consumerIn = v :: rest →
    let w := if s.report.inFlight.isSome then 1 else 0
    ((s.report.producer - v).toNat + w ≤ 256 → nothingOwed s = true →
      ∃ t : State, exec .consumerValueWritten s = .next t ∧
        ringSide t = ((s.report.producer, v, s.report.badConsumer, s.report.attnEnable),
          (s.report.snapWriting, s.report.snapRepeat, s.report.snapNumber), rest) ∧
        t.engine = { s.engine with attn := s.report.attnEnable && decide (s.report.producer ≠ v) } ∧
        reported t = reported s ∧ t.report.seq = s.report.seq ∧
        t.port = { s.port with q3 := s.port.q3 ++ ringWrites s t } ∧
        laneSide t = laneSide s ∧ trackSide t = trackSide s ∧ clockSide t = clockSide s ∧
        t.orders.shadow = s.orders.shadow ∧ t.orders.slot = s.orders.slot ∧ t.orders.lap = s.orders.lap) ∧
    (256 < (s.report.producer - v).toNat + w →
      exec .consumerValueWritten s =
        .next { s with report := { s.report with
          consumerIn := rest, badConsumer := min (s.report.badConsumer + 1) 4294967295 } })

/-- R165, R166: an examination that finds no order clears the flag and does nothing else. One that finds an order takes
it: the expected slot advances, and what follows is what the command of the order's code does (the model's choice, log
entry 3). -/
def Obligations.ExaminationTakesTheOrder : Prop :=
  ∀ s : State, s.engine.state = .running →
    (s.orders.examDue = true → foundOrder s = none →
      exec .orderExamination s = .next { s with orders := { s.orders with examDue := false } }) ∧
    (∀ o : Order, s.orders.examDue = true → foundOrder s = some o →
      (∃ t : State, exec .orderExamination s = .next t ∧ t.orders.slot = s.orders.slot + 1 ∧
        t.orders.lap = (if s.orders.slot = 63 then 3 - s.orders.lap else s.orders.lap) ∧
        t.orders.examDue = true ∧ t.orders.shadow = s.orders.shadow) ∧
      (o.code = 1 → exec .orderExamination s = exec .setWindow s) ∧
      (o.code = 2 → exec .orderExamination s = exec .release s) ∧
      (o.code = 3 → exec .orderExamination s = exec .openTransfer s) ∧
      (o.code = 4 → exec .orderExamination s = exec .closeTransfer s) ∧
      (o.code = 5 → exec .orderExamination s = exec .retire s) ∧
      (o.code = 6 → exec .orderExamination s = exec .clearAll s) ∧
      (o.code = 7 → exec .orderExamination s = exec .recheck s) ∧
      (o.code = 8 → exec .orderExamination s = exec .stepSweep s) ∧
      (o.code = 9 → exec .orderExamination s = exec .stopSweep s) ∧
      (o.code = 10 → exec .orderExamination s = exec .snapshot s) ∧
      (o.code = 11 → exec .orderExamination s = exec .setEngine s) ∧
      (11 < o.code.toNat → exec .orderExamination s = exec .unknownOrder s))

/-- R31, R22, R32: SET-WINDOW is refused with the entry unchanged; applied at once, with strikes and counters at 0 and no
staged definition, where the window is OFF or its bound count is 0; and staged otherwise. (No sweep of the window is
stopped by the apply.) -/
def Obligations.SetWindowAppliesOrStages : Prop :=
  ∀ (o : Order) (s : State), OrderFound s o → o.code = 1 →
    (o.window = none →
      ∃ t : State, exec .setWindow s = .next t ∧ AnsweredOnly s t o .badWindow) ∧
    (∀ w : WinId, o.window = some w →
      (∀ st : Status, validate s w (takeDefinition (windowEntry s w)) = some st →
        ∃ t : State, exec .setWindow s = .next t ∧ AnsweredOnly s t o st) ∧
      (∀ d : TakenDef, takeDefinition (windowEntry s w) = some d → validate s w (some d) = none →
        ((getWin s w).state = .off ∨ (getWin s w).bound = 0 →
          s.sweeper.job.all (fun j => decide (j.win ≠ w)) = true →
          ∃ t : State, exec .setWindow s = .next t ∧ TookOrder s t [doneReport o (plain .done)] [] ∧
            t.windows = s.windows.set w.val
              { state := (match d with | .enabled _ => .active | .disabled => .off)
                defn := (match d with | .enabled x => some x | .disabled => none)
                staged := none, bound := (getWin s w).bound, strikes := 0, counters := WinCounters.zero
                owedApplied := (getWin s w).owedApplied, owedFenced := (getWin s w).owedFenced } w.isLt ∧
            t.ctxs = s.ctxs ∧ t.serial = s.serial ∧ t.pool = s.pool ∧ t.builder = s.builder ∧
            t.slots = s.slots ∧ t.fence = s.fence ∧
            ringSide t = ringSide s ∧ laneSide t = laneSide s ∧ clockSide t = clockSide s) ∧
        ((getWin s w).state ≠ .off → (getWin s w).bound ≠ 0 →
          ∃ t : State, exec .setWindow s = .next t ∧ TookOrder s t [doneReport o (plain .staged)] [] ∧
            t.windows = s.windows.set w.val { getWin s w with staged := some d } w.isLt ∧
            t.ctxs = s.ctxs ∧ t.serial = s.serial ∧ t.pool = s.pool ∧ t.builder = s.builder ∧
            t.slots = s.slots ∧ t.fence = s.fence ∧
            ringSide t = ringSide s ∧ laneSide t = laneSide s ∧ clockSide t = clockSide s)))

/-- R36: RELEASE is refused BAD-WINDOW above 15 and NOT-FENCED where the window is not FENCED. Otherwise the window
becomes ACTIVE with a strike count of 0, its staged definition, counters and owed markers unchanged, and the status is
DONE. That the order command is the examination that takes it is the model's choice (log entry 3). -/
def Obligations.ReleaseReturnsAFencedWindow : Prop :=
  ∀ (o : Order) (s : State), OrderFound s o → o.code = 2 →
    (o.window = none → ∃ t : State, exec .release s = .next t ∧ AnsweredOnly s t o .badWindow) ∧
    (∀ w : WinId, o.window = some w →
      ((getWin s w).state ≠ .fenced → ∃ t : State, exec .release s = .next t ∧ AnsweredOnly s t o .notFenced) ∧
      ((getWin s w).state = .fenced →
        ∃ t : State, exec .release s = .next t ∧ TookOrder s t [doneReport o (plain .done)] [] ∧
          t.windows = s.windows.set w.val { getWin s w with state := .active, strikes := 0 } w.isLt ∧
          t.ctxs = s.ctxs ∧ t.serial = s.serial ∧ t.pool = s.pool ∧ t.builder = s.builder ∧
          t.slots = s.slots ∧ t.fence = s.fence ∧
          ringSide t = ringSide s ∧ laneSide t = laneSide s ∧ clockSide t = clockSide s))

/-- R43, R44, R45, R3, R4, R6: OPEN makes its eight checks in order, the first that fails giving the status with nothing
bound. An OPEN that passes binds the lowest-numbered FREE context: PRIMING, the next transfer number, the key of R3
reduced, the given L and object id, and everything else as in a FREE context; the build is requested and the window
counts the binding. -/
def Obligations.OpenBindsAContext : Prop :=
  ∀ (o : Order) (s : State), OrderFound s o → o.code = 3 →
    (o.window = none → ∃ t : State, exec .openTransfer s = .next t ∧ AnsweredOnly s t o .badWindow) ∧
    (∀ w : WinId, o.window = some w →
      ((getWin s w).state = .off →
        ∃ t : State, exec .openTransfer s = .next t ∧ AnsweredOnly s t o .badWindow) ∧
      ((getWin s w).state = .fenced →
        ∃ t : State, exec .openTransfer s = .next t ∧ AnsweredOnly s t o .fenced) ∧
      (∀ d : WinDef, (getWin s w).state = .active → (getWin s w).defn = some d →
        let key := (if o.key = 0 then d.defaultKey.toNat else o.key) % P
        ((getWin s w).draining = true →
          ∃ t : State, exec .openTransfer s = .next t ∧ AnsweredOnly s t o .draining) ∧
        ((getWin s w).draining = false →
          (d.count ≤ o.bay → ∃ t : State, exec .openTransfer s = .next t ∧ AnsweredOnly s t o .badBay) ∧
          (o.bay < d.count → (lookup s w o.bay).isSome = true →
            ∃ t : State, exec .openTransfer s = .next t ∧ AnsweredOnly s t o .alreadyBound) ∧
          (o.bay < d.count → lookup s w o.bay = none →
            (key = 0 ∨ key = 1 ∨ key = P - 1 →
              ∃ t : State, exec .openTransfer s = .next t ∧ AnsweredOnly s t o .keyWeak) ∧
            (2 ≤ key → key ≤ P - 2 →
              (o.length.any (fun n => decide (d.capacity < n)) = true →
                ∃ t : State, exec .openTransfer s = .next t ∧ AnsweredOnly s t o .range) ∧
              (o.length.all (fun n => decide (n ≤ d.capacity)) = true →
                (lowestFree s = none →
                  ∃ t : State, exec .openTransfer s = .next t ∧ AnsweredOnly s t o .tableFull) ∧
                (∀ c : CtxId, lowestFree s = some c →
                  ∃ t : State, exec .openTransfer s = .next t ∧
                    TookOrder s t [doneReport o { status := .done, ctx := some c, value := none }] [] ∧
                    t.serial = s.serial + 1 ∧
                    t.ctxs = s.ctxs.set c.val
                      { Context.free with
                        state := .priming
                        binding := some { number := s.serial + 1, win := w, bay := o.bay, key := key }
                        len := o.length, objId := o.objId } c.isLt ∧
                    t.windows = s.windows.set w.val
                      { getWin s w with
                        bound := (getWin s w).bound + 1
                        counters := { (getWin s w).counters with
                          opened := min ((getWin s w).counters.opened + 1) 4294967295 } } w.isLt ∧
                    t.builder = (if s.builder.building.isNone then { s.builder with building := some c }
                      else { s.builder with queue := s.builder.queue ++ [c] }) ∧
                    t.pool = s.pool ∧ t.slots = s.slots ∧ t.fence = s.fence ∧
                    ringSide t = ringSide s ∧ laneSide t = laneSide s ∧ clockSide t = clockSide s)))))))

/-- R52, R48, R8: CLOSE is refused BAD-WINDOW above 15 and for an OFF window, BAD-BAY beyond the window's bays, NOT-BOUND for
an unbound bay, and FINAL in a final state or GUARD. CLOSE of a PRIMING or COLLECTING transfer makes it ABORTED, cause
CLOSED: its extents return to the pool, its reconciles are detached, its reads held for FENCE are answered ERROR (in lane
order, log entry 14), its build is abandoned, the next queued one starting where it was in progress, no strike is counted,
and its TRANSFER-END group precedes the ORDER-DONE, which carries the context. (The group has room.) -/
def Obligations.CloseAbortsATransfer : Prop :=
  ∀ (o : Order) (s : State), BuilderInv s → OrderFound s o → o.code = 4 →
    (o.window = none → ∃ t : State, exec .closeTransfer s = .next t ∧ AnsweredOnly s t o .badWindow) ∧
    (∀ w : WinId, o.window = some w →
      ((getWin s w).region = none → ∃ t : State, exec .closeTransfer s = .next t ∧ AnsweredOnly s t o .badWindow) ∧
      (∀ d : WinDef, (getWin s w).region = some d →
        (d.count ≤ o.bay → ∃ t : State, exec .closeTransfer s = .next t ∧ AnsweredOnly s t o .badBay) ∧
        (o.bay < d.count → lookup s w o.bay = none →
          ∃ t : State, exec .closeTransfer s = .next t ∧ AnsweredOnly s t o .notBound) ∧
        (∀ (c : CtxId) (b : Binding), o.bay < d.count → lookup s w o.bay = some c → (getCtx s c).binding = some b →
          let cx := getCtx s c
          let f : FinalRec := { state := .aborted, cause := .closed }
          (cx.state.isFinal = true ∨ cx.state = .guard →
            ∃ t : State, exec .closeTransfer s = .next t ∧ AnsweredOnly s t o .final) ∧
          (cx.state = .priming ∨ cx.state = .collecting → s.report.list.length + 3 ≤ 32 →
            ∃ t : State, exec .closeTransfer s = .next t ∧
              reported t = reported s ++
                [.transferEnd f c b.win b.bay b.number cx.len cx.tflags cx.acc,
                  .transferIds c b.number cx.chk cx.objId,
                  .transferCounts c cx.newBytes cx.reconBytes cx.strayBytes cx.rejWrites cx.afterEnd,
                  doneReport o { status := .done, ctx := some c, value := none }] ∧
              t.ctxs = s.ctxs.set c.val
                { cx with state := .aborted, first := some f, idle := none, reconCount := 0, extents := [] } c.isLt ∧
              t.pool = { s.pool with level := s.pool.level + cx.extents.length } ∧
              t.windows = s.windows ∧ t.serial = s.serial ∧
              t.builder = (if s.builder.building = some c then
                  { building := s.builder.queue.head?, queue := s.builder.queue.tail }
                else { s.builder with queue := s.builder.queue.filter fun k => decide (k ≠ c) }) ∧
              t.builder.building ≠ some c ∧ c ∉ t.builder.queue ∧
              (∀ k : LaneId, getSlot t k = detachSlot c (getSlot s k) ∧
                (getFence t k).isSome = ((getFence s k).isSome &&
                  ((getFence s k).all (fun g => decide (g.ctx ≠ c)) || (getLane s k).head.isNone)) ∧
                (getLane t k).backlog = (getLane s k).backlog) ∧
              t.upOut = s.upOut ++ ((allLanes.filter fun k => (getFence s k).any fun g => decide (g.ctx = c)).filterMap
                fun k => (getLane s k).head.map fun h => errorTo h.req) ∧
              t.orders.slot = s.orders.slot + 1 ∧ t.orders.shadow = s.orders.shadow ∧
              t.port = { s.port with q3 := s.port.q3 ++ ringWrites s t } ∧
              ringSide t = ringSide s ∧ t.time = s.time ∧ t.sweeper = s.sweeper ∧ t.stall = s.stall))))

/-- R53, R55, R30, R33, R32, R144: RETIRE is refused NOT-FINAL in PRIMING and COLLECTING and FINAL in GUARD. In a final state it
clears isolation and enters GUARD with the guard ticks of the definition in force, which no tick delivered before lowers
(the mark of a delivered tick is the model's own, log entry 8), the binding staying; or, with guard ticks of 0, returns the context to FREE, which lowers the window's bound count. Where that falls to 0 on a draining window
the staged definition is applied, and its WINDOW-APPLIED precedes the ORDER-DONE. The ORDER-DONE carries the context and
its after-end writes. (No visit of the bay is in progress, and no sweep of the window is stopped by the apply.) -/
def Obligations.RetireEntersGuardOrFrees : Prop :=
  ∀ (o : Order) (w : WinId) (c : CtxId) (d : WinDef) (s : State), OrderFound s o → o.code = 5 →
    o.window = some w → (getWin s w).region = some d → o.bay < d.count → lookup s w o.bay = some c →
    s.sweeper.visit.all (fun v => decide (v.ctx ≠ c)) = true →
    let cx := getCtx s c
    let fin := doneReport o { status := .done, ctx := some c, value := some cx.afterEnd }
    (cx.state = .priming ∨ cx.state = .collecting →
      ∃ t : State, exec .retire s = .next t ∧ AnsweredOnly s t o .notFinal) ∧
    (cx.state = .guard → ∃ t : State, exec .retire s = .next t ∧ AnsweredOnly s t o .final) ∧
    (cx.state.isFinal = true → 0 < d.guardTicks →
      ∃ t : State, exec .retire s = .next t ∧ TookOrder s t [fin] [] ∧
        t.ctxs = s.ctxs.set c.val
          { cx with isolated := false, state := .guard, guardCount := some d.guardTicks } c.isLt ∧
        t.time = { s.time with ctxDue := s.time.ctxDue.set c.val false c.isLt } ∧
        t.windows = s.windows ∧ t.serial = s.serial ∧ t.pool = s.pool ∧ t.builder = s.builder ∧
        t.slots = s.slots ∧ t.fence = s.fence ∧ ringSide t = ringSide s ∧ laneSide t = laneSide s ∧
        (t.sweeper, t.counters, t.choices, t.pending) = (s.sweeper, s.counters, s.choices, s.pending)) ∧
    (cx.state.isFinal = true → d.guardTicks = 0 → (getWin s w).staged = none ∨ 2 ≤ (getWin s w).bound →
      ∃ t : State, exec .retire s = .next t ∧ TookOrder s t [fin] [] ∧
        t.ctxs = s.ctxs.set c.val Context.free c.isLt ∧
        t.windows = s.windows.set w.val { getWin s w with bound := (getWin s w).bound - 1 } w.isLt ∧
        t.serial = s.serial ∧ t.pool = s.pool ∧ t.builder = s.builder ∧
        t.slots = s.slots ∧ t.fence = s.fence ∧
        ringSide t = ringSide s ∧ laneSide t = laneSide s ∧ clockSide t = clockSide s) ∧
    (∀ td : TakenDef, cx.state.isFinal = true → d.guardTicks = 0 → (getWin s w).staged = some td →
      (getWin s w).bound = 1 → s.sweeper.job.all (fun j => decide (j.win ≠ w)) = true →
      ∃ t : State, exec .retire s = .next t ∧
        TookOrder s t [.windowApplied w (match td with | .enabled _ => .active | .disabled => .off) none, fin] [] ∧
        t.ctxs = s.ctxs.set c.val Context.free c.isLt ∧
        t.windows = s.windows.set w.val (drainedWindow (getWin s w) td) w.isLt ∧
        t.serial = s.serial ∧ t.pool = s.pool ∧ t.builder = s.builder ∧
        t.slots = s.slots ∧ t.fence = s.fence ∧
        ringSide t = ringSide s ∧ laneSide t = laneSide s ∧ clockSide t = clockSide s)

/-- R56, R128, R108, R138: CLEAR-ALL returns every context to FREE and every extent to the pool, empties the builder and
every slot, forwards the writes held for PRIMING and RECONCILE untracked in increasing lane number
(section 12.1) and answers the reads held for FENCE ERROR (in the same order, the model's choice, log entry 14);
CONFLICT heads lose their hold. The serial, backlogs, shadow and window definitions stay. The
ORDER-DONE carries the number of contexts freed. (No window drains and the sweeper is IDLE.) -/
def Obligations.ClearAllFreesEverything : Prop :=
  ∀ (o : Order) (s : State), OrderFound s o → o.code = 6 → (∀ w : WinId, (getWin s w).staged = none) →
    s.sweeper.job = none →
    ∃ t : State, exec .clearAll s = .next t ∧
      reported t = reported s ++ [doneReport o { status := .done, ctx := none, value := some (256 - freeCount s) }] ∧
      (∀ c : CtxId, getCtx t c = Context.free) ∧
      t.pool = { s.pool with level := 2048 } ∧ t.builder = { building := none, queue := [] } ∧
      (∀ w : WinId, getWin t w = { getWin s w with bound := 0 }) ∧
      (∀ l : LaneId, getSlot t l = .empty ∧ (getLane t l).backlog = (getLane s l).backlog ∧
        (getLane t l).head =
          (match (getLane s l).head with
            | some { req := r, standing := .held .conflict } => some { req := r, standing := .released }
            | some { req := _, standing := .held _ } => none
            | some h => some h
            | none => none) ∧
        (heldFor s l .fence → getFence t l = none)) ∧
      t.port.q1 = s.port.q1 ++
        (allLanes.filterMap (heldRequest s forwardedAtClear)).map (forwardedReq · none) ∧
      t.port.q2 = [] ∧ t.port.q3 = s.port.q3 ++ ringWrites s t ∧ t.port.q4 = s.port.q4 ∧
      t.port.outstanding = s.port.outstanding.map (orphanWhere Owner.isReconcile) ∧
      t.upOut = s.upOut ++ (allLanes.filterMap (heldRequest s (· == .fence))).map errorTo ∧
      t.serial = s.serial ∧ t.orders.shadow = s.orders.shadow ∧ t.orders.slot = s.orders.slot + 1 ∧
      ringSide t = ringSide s ∧ t.time = s.time ∧ t.sweeper = s.sweeper ∧ t.stall = s.stall

/-- R152, R153: RECHECK makes its checks in order. One that passes makes an IDLE sweeper RUNNING on the order's window,
bays and mode, at its first bay and with pass counts of 0. Toward a sweeper that is not IDLE an order is refused BUSY,
unless its restart flag is set, its mode is ONCE, and the sweep is a RUNNING one of mode ONCE on the same window: that
sweep ends with a SWEEP-DONE, cause RESTARTED, its visit discarded, and the order's own sweep begins. -/
def Obligations.RecheckStartsASweep : Prop :=
  ∀ (o : Order) (s : State), OrderFound s o → o.code = 7 →
    (o.window = none → ∃ t : State, exec .recheck s = .next t ∧ AnsweredOnly s t o .badWindow) ∧
    (∀ w : WinId, o.window = some w →
      ((getWin s w).region = none → ∃ t : State, exec .recheck s = .next t ∧ AnsweredOnly s t o .badWindow) ∧
      (∀ d : WinDef, (getWin s w).region = some d →
        (o.sweepMode = none → ∃ t : State, exec .recheck s = .next t ∧ AnsweredOnly s t o .range) ∧
        (∀ m : SweepMode, o.sweepMode = some m →
          (d.count ≤ o.firstBay ∨ d.count ≤ o.lastBay →
            ∃ t : State, exec .recheck s = .next t ∧ AnsweredOnly s t o .badBay) ∧
          (o.firstBay < d.count → o.lastBay < d.count → s.sweeper.state ≠ .idle →
            o.restart = false ∨ m ≠ .once ∨ s.sweeper.state ≠ .running ∨
              s.sweeper.job.all (fun j => decide (j.mode ≠ .once ∨ j.win ≠ w)) = true →
            ∃ t : State, exec .recheck s = .next t ∧ AnsweredOnly s t o .busy) ∧
          (∀ j : SweepJob, o.firstBay < d.count → o.lastBay < d.count → s.sweeper.state = .running →
            o.restart = true → m = .once → s.sweeper.job = some j → j.mode = .once → j.win = w →
            ∃ t : State, exec .recheck s = .next t ∧
              TookOrder (discardVisit s) t
                [.sweepDone .restarted w s.sweeper.checked s.sweeper.failed s.sweeper.skipped,
                  doneReport o (plain .done)] [] ∧
              t.sweeper = { s.sweeper with
                state := .running, checked := 0, failed := 0, skipped := 0, visit := none
                job := some { win := w, first := o.firstBay, last := o.lastBay, mode := .once,
                              current := o.firstBay } } ∧
              t.time = s.time ∧ t.counters = s.counters ∧ ringSide t = ringSide s ∧ laneSide t = laneSide s ∧
              trackSide t = trackSide s) ∧
          (o.firstBay < d.count → o.lastBay < d.count → s.sweeper.state = .idle →
            ∃ t : State, exec .recheck s = .next t ∧ TookOrder s t [doneReport o (plain .done)] [] ∧
              t.sweeper = { s.sweeper with
                state := .running, checked := 0, failed := 0, skipped := 0
                job := some { win := w, first := o.firstBay, last := o.lastBay, mode := m,
                              current := o.firstBay } } ∧
              t.time = s.time ∧ t.counters = s.counters ∧ ringSide t = ringSide s ∧ laneSide t = laneSide s ∧
              trackSide t = trackSide s))))

/-- R159: STEP is refused NO-SWEEP where the sweeper is IDLE and BUSY where it is RUNNING, and makes a WAITING-STEP
sweeper RUNNING. STOP-SWEEP is refused NO-SWEEP where it is IDLE; otherwise the visit in progress is discarded, a
SWEEP-DONE with cause STOPPED and the pass counts precedes the ORDER-DONE, and the sweeper becomes IDLE. -/
def Obligations.StepAndStopSweep : Prop :=
  ∀ (o : Order) (s : State), OrderFound s o →
    (o.code = 8 →
      (s.sweeper.state = .idle → ∃ t : State, exec .stepSweep s = .next t ∧ AnsweredOnly s t o .noSweep) ∧
      (s.sweeper.state = .running → ∃ t : State, exec .stepSweep s = .next t ∧ AnsweredOnly s t o .busy) ∧
      (s.sweeper.state = .waitingStep →
        ∃ t : State, exec .stepSweep s = .next t ∧ TookOrder s t [doneReport o (plain .done)] [] ∧
          t.sweeper = { s.sweeper with state := .running } ∧ t.time = s.time ∧ t.counters = s.counters ∧
          ringSide t = ringSide s ∧ laneSide t = laneSide s ∧ trackSide t = trackSide s)) ∧
    (o.code = 9 →
      (s.sweeper.state = .idle → ∃ t : State, exec .stopSweep s = .next t ∧ AnsweredOnly s t o .noSweep) ∧
      (∀ j : SweepJob, s.sweeper.state ≠ .idle → s.sweeper.job = some j →
        ∃ t : State, exec .stopSweep s = .next t ∧
          TookOrder (discardVisit s) t
            [.sweepDone .stopped j.win s.sweeper.checked s.sweeper.failed s.sweeper.skipped,
              doneReport o (plain .done)] [] ∧
          t.sweeper = { s.sweeper with state := .idle, job := none, visit := none } ∧
          t.time = s.time ∧ t.counters = s.counters ∧ ringSide t = ringSide s ∧ laneSide t = laneSide s ∧
          trackSide t = trackSide s))

/-- R167: SNAPSHOT toward an IDLE snapshot raises the snapshot number, and hands over block 0, the engine status block of
256 bytes at page offset 0x0100, in the same event, with the state as it stands before the order's ORDER-DONE and advance
(the model's choice, log entry 11). While WRITING it sets the repeat flag. Its status is DONE. -/
def Obligations.SnapshotBeginsOrRepeats : Prop :=
  ∀ (o : Order) (s : State), OrderFound s o → o.code = 10 →
    (s.report.snapWriting = none →
      ∃ t : State, exec .snapshot s = .next t ∧
        TookOrder s t [doneReport o (plain .done)]
          [{ kind := .write, addr := pageAddr s 0x100, count := 256
             data := engineStatus { s with report := { s.report with snapNumber := s.report.snapNumber + 1 } }
             owner := .statusBlock }] ∧
        ringSide t = ((s.report.producer, s.report.consumer, s.report.badConsumer, s.report.attnEnable),
          (some 0, s.report.snapRepeat, s.report.snapNumber + 1), s.report.consumerIn) ∧
        laneSide t = laneSide s ∧ trackSide t = trackSide s ∧ clockSide t = clockSide s) ∧
    (∀ n : Nat, s.report.snapWriting = some n →
      ∃ t : State, exec .snapshot s = .next t ∧ TookOrder s t [doneReport o (plain .done)] [] ∧
        ringSide t = ((s.report.producer, s.report.consumer, s.report.badConsumer, s.report.attnEnable),
          (some n, true, s.report.snapNumber), s.report.consumerIn) ∧
        laneSide t = laneSide s ∧ trackSide t = trackSide s ∧ clockSide t = clockSide s)

/-- R168, R143: SET-ENGINE makes the settings block's tick interval (0 taken as 1), snapshot period and attention enable
the pending settings, replacing any present. R166: an order of an unlisted code has no effect beyond its ORDER-DONE,
UNKNOWN-ORDER. -/
def Obligations.SetEngineAndUnknownOrders : Prop :=
  ∀ (o : Order) (s : State), OrderFound s o →
    let byte := fun x => (readByte s.orders.shadow x).toNat
    (o.code = 11 →
      ∃ t : State, exec .setEngine s = .next t ∧ TookOrder s t [doneReport o (plain .done)] [] ∧
        t.time = { s.time with
          pendingSettings :=
            some { interval := if byte 0 + 256 * byte 1 = 0 then 1 else byte 0 + 256 * byte 1
                   period := byte 2 + 256 * byte 3
                   attn := decide (byte 4 ≠ 0) } } ∧
        t.sweeper = s.sweeper ∧ t.counters = s.counters ∧ ringSide t = ringSide s ∧ laneSide t = laneSide s ∧
        trackSide t = trackSide s) ∧
    (11 < o.code.toNat → ∃ t : State, exec .unknownOrder s = .next t ∧ AnsweredOnly s t o .unknownOrder)

/-! ### Ladders and reconciles -/

/-- R7, R5, R47, R146: the ladder of the context being built becomes present, the context becomes COLLECTING with an empty list
and its idle limit loaded, which no tick delivered before lowers (the mark of a delivered tick is the model's own, log
entry 8), the writes held for PRIMING on its bay await a new head event, and the builder takes the next
queued context or becomes IDLE. -/
def Obligations.LadderCompleteBeginsCollecting : Prop :=
  ∀ (c : CtxId) (b : Binding) (d : WinDef) (s : State), s.builder.building = some c →
    (getCtx s c).state = .priming → (getCtx s c).binding = some b → (getWin s b.win).defn = some d →
    ∃ t : State, exec .ladderComplete s = .next t ∧
      t.ctxs = s.ctxs.set c.val
        { getCtx s c with state := .collecting, ladder := some (ladderOf b.key), extents := [],
                          idle := some d.idleLimit } c.isLt ∧
      t.builder = { building := s.builder.queue.head?, queue := s.builder.queue.tail } ∧
      (∀ l : LaneId, (getLane t l).backlog = (getLane s l).backlog ∧
        (getLane t l).head =
          (match (getLane s l).head with
            | some { req := r, standing := .held .priming } =>
              some { req := r, standing := if touchesBay s r b.win b.bay then .released else .held .priming }
            | some h => some h
            | none => none)) ∧
      (t.engine, t.stall, t.upOut, t.port, t.windows) = (s.engine, s.stall, s.upOut, s.port, s.windows) ∧
      (t.serial, t.pool, t.slots, t.fence) = (s.serial, s.pool, s.slots, s.fence) ∧
      (t.report, t.orders) = (s.report, s.orders) ∧
      t.time = { s.time with ctxDue := s.time.ctxDue.set c.val false c.isLt } ∧
      (t.sweeper, t.counters, t.choices, t.pending) = (s.sweeper, s.counters, s.choices, s.pending)

/-- R104, R14, R89, R90: the OKAY read of an ATTACHED slot corrects the accumulator once for each overlapped piece, counts
the bytes, lowers the reconcile count, forwards the held write as a tracked write, empties the slot, and releases the
heads held for CONFLICT against it. Where that brings the reconcile count to 0, the trailer is taken and the coverage is
complete, the verdict follows in the same event. (Where the transfer ends, nothing is owed and the records have room.) -/
def Obligations.ReconcileReturnCorrects : Prop :=
  ∀ (id : Nat) (data : List Byte) (l : LaneId) (c : CtxId) (q : ReconRec) (m : MemReq) (b : Binding) (s : State),
    RestInv s → s.engine.state = .running → findIssued s id = some m → m.owner = .reconcile l →
    data.length = m.count → getSlot s l = .attached c q → (getCtx s c).state = .collecting →
    (getCtx s c).binding = some b → (getCtx s c).reconCount ≠ 0 →
    let cx := getCtx s c
    let corrected := { cx with
      acc := correctPieces (cx.ladder.getD []) q.span.start data q.offset q.write.data q.pieces cx.acc
      reconBytes := min (cx.reconBytes + totalLength q.pieces) 4294967295
      reconCount := cx.reconCount - 1 }
    let unheld : Lane → Lane := fun x => { x with
      head := match x.head with
        | some { req := r, standing := .held .conflict } =>
          some { req := r, standing := if requestsMeet r q.write then .released else .held .conflict }
        | some h => some h
        | none => none }
    let after := { s with
      ctxs := s.ctxs.set c.val corrected c.isLt
      slots := s.slots.set l.val .empty l.isLt
      lanes := (headGone s l).map unheld
      port := { s.port with
        q1 := s.port.q1 ++ [forwardedReq q.write (some (c, b.number))]
        outstanding := s.port.outstanding.filter fun x => decide (x.id ≠ id) }
      counters := { s.counters with reconCompleted := min (s.counters.reconCompleted + 1) 4294967295 } }
    (cx.reconCount ≠ 1 ∨ cx.taken = none ∨ complete cx.extents cx.len = false →
      exec (.reconcileReadReturn id data) s = .next after) ∧
    (cx.reconCount = 1 → cx.taken.isSome = true → complete cx.extents cx.len = true → nothingOwed s = true →
      s.report.list.length + 4 ≤ 32 →
      ∃ t : State, exec (.reconcileReadReturn id data) s = .next t ∧
        TransferEnded after t c b
          (if cx.chk = some corrected.acc then { state := .verified, cause := .checkEqual }
            else { state := .mismatch, cause := .checkUnequal }))

/-- R105, R106: an ERROR to the read of an ATTACHED slot makes no correction: the write is forwarded, the slot empties,
the transfer becomes LOST, cause RECONCILE-ERROR, and the failure is counted. (Nothing is owed and the records have
room.) Any answer to the read of a DETACHED slot is discarded: the write is forwarded untracked, the slot empties, and no
context, window or counter changes. -/
def Obligations.ReconcileErrorsAndDetachedReads : Prop :=
  ∀ (id : Nat) (l : LaneId) (m : MemReq) (s : State), findIssued s id = some m → m.owner = .reconcile l →
    (∀ (c : CtxId) (q : ReconRec) (b : Binding), RestInv s → s.engine.state = .running →
      getSlot s l = .attached c q → (getCtx s c).state = .collecting → (getCtx s c).binding = some b →
      nothingOwed s = true → s.report.list.length + 4 ≤ 32 → getFence s l = none →
      ∃ t : State, exec (.reconcileReadError id) s = .next t ∧
        t.ctxs = s.ctxs.set c.val
          { getCtx s c with
            state := .lost, first := some { state := .lost, cause := .reconcileError }, idle := none
            reconCount := 0, extents := [] } c.isLt ∧
        getSlot t l = .empty ∧ (getLane t l).head = none ∧
        (∀ k : LaneId, k ≠ l → getSlot t k = detachSlot c (getSlot s k)) ∧
        t.port.q1 = s.port.q1 ++ [forwardedReq q.write (some (c, b.number))] ∧
        t.port.outstanding = s.port.outstanding.filter (fun x => decide (x.id ≠ id)) ∧
        t.counters.reconFailed = min (s.counters.reconFailed + 1) 4294967295 ∧
        t.counters.reconCompleted = s.counters.reconCompleted ∧
        t.pool = { s.pool with level := s.pool.level + (getCtx s c).extents.length } ∧
        t.serial = s.serial ∧ t.builder = s.builder ∧ t.time = s.time ∧ t.sweeper = s.sweeper) ∧
    (∀ (q : ReconRec) (resp : MemResp), getSlot s l = .detached q →
      ∃ t : State, exec (.detachedReadReturn id resp) s = .next t ∧
        t.slots = s.slots.set l.val .empty l.isLt ∧ (getLane t l).head = none ∧
        (∀ k : LaneId, (getLane t k).backlog = (getLane s k).backlog) ∧
        t.port = { s.port with
          q1 := s.port.q1 ++ [forwardedReq q.write none]
          outstanding := s.port.outstanding.filter fun x => decide (x.id ≠ id) } ∧
        (t.engine, t.stall, t.upOut, t.windows, t.ctxs) = (s.engine, s.stall, s.upOut, s.windows, s.ctxs) ∧
        (t.serial, t.pool, t.builder, t.fence) = (s.serial, s.pool, s.builder, s.fence) ∧
        (t.report, t.orders) = (s.report, s.orders) ∧ clockSide t = clockSide s)

/-! ### Ticks -/

/-- R142: a tick is delivered to every COLLECTING and every GUARD context, every held read and the Time Base, each of
which awaits an event of its own; nothing else changes in TICK. It is delivered when the events of the tick before it have been taken, and then
alone (the model's form, log entry 8). R146, R148, R149, R150: such an event lowers by one the idle count of a COLLECTING
context, the guard count of one in GUARD, the hold count of a held read, or the snapshot countdown where no settings are
pending, in any order with the others; of an owner that has lost its count since the tick it changes nothing. (Here the
count is 2 or more.) -/
def Obligations.TickAgesItsOwners : Prop :=
  ∀ s : State,
    (s.time.running = true → 0 < s.time.ticksDue → tickUnfinished s = false →
      exec .tick s =
        .next { s with time := { s.time with
          ticksDue := s.time.ticksDue - 1
          ctxDue := s.ctxs.map fun x => decide (x.state = .collecting ∨ x.state = .guard)
          readDue := s.fence.map Option.isSome, tickOpen := true } }) ∧
    (s.time.running = false ∨ s.time.ticksDue = 0 ∨ tickUnfinished s = true → exec .tick s = .next s) ∧
    (∀ c : CtxId, s.engine.state = .running → ctxDue s c = true →
      let time := { s.time with ctxDue := s.time.ctxDue.set c.val false c.isLt }
      (∀ n : Nat, (getCtx s c).state = .collecting → (getCtx s c).idle = some n → 2 ≤ n →
        exec (.idleCountEnd c) s =
          .next { s with time := time, ctxs := s.ctxs.set c.val { getCtx s c with idle := some (n - 1) } c.isLt }) ∧
      (∀ n : Nat, (getCtx s c).state = .guard → (getCtx s c).guardCount = some n → 2 ≤ n →
        exec (.guardEnd c) s =
          .next { s with
                  time := time
                  ctxs := s.ctxs.set c.val { getCtx s c with guardCount := some (n - 1) } c.isLt }) ∧
      ((getCtx s c).state ≠ .collecting → (getCtx s c).state ≠ .guard →
        exec (.idleCountEnd c) s = .next { s with time := time })) ∧
    (∀ l : LaneId, s.engine.state = .running → readDue s l = true →
      let time := { s.time with readDue := s.time.readDue.set l.val false l.isLt }
      (∀ g : FenceRec, getFence s l = some g → (getLane s l).head.isSome = true → 2 ≤ g.hold →
        exec (.holdCountEnd l) s =
          .next { s with time := time, fence := s.fence.set l.val (some { g with hold := g.hold - 1 }) l.isLt }) ∧
      (getFence s l = none → exec (.holdCountEnd l) s = .next { s with time := time })) ∧
    (s.engine.state = .running → s.time.tickOpen = true → s.time.pendingSettings = none →
      s.time.countdown.all (fun n => decide (2 ≤ n)) = true →
      exec .snapshotCountdownEnd s =
        .next { s with time := { s.time with countdown := s.time.countdown.map (· - 1), tickOpen := false } })

/-- R146, R147, R48: a COLLECTING context whose idle count a tick ends becomes EXPIRED, cause IDLE, with its list
returned, its reconciles detached, its held reads answered ERROR and a strike counted; a count that a taken write has
reloaded since the tick is lowered instead. That the tick is delivered before, in TICK, is the model's form (log entry 8).
(In the first clause nothing is owed and the records have room.) -/
def Obligations.IdleCountEndExpires : Prop :=
  ∀ (c : CtxId) (b : Binding) (n : Nat) (s : State), s.engine.state = .running →
    (getCtx s c).state = .collecting → ctxDue s c = true → (getCtx s c).idle = some n →
    (getCtx s c).binding = some b →
    let time := { s.time with ctxDue := s.time.ctxDue.set c.val false c.isLt }
    (n ≤ 1 → nothingOwed s = true → s.report.list.length + 4 ≤ 32 →
      ∃ t : State, exec (.idleCountEnd c) s = .next t ∧
        t.ctxs = s.ctxs.set c.val
          { getCtx s c with
            state := .expired, first := some { state := .expired, cause := .idle }, idle := none
            reconCount := 0, extents := [] } c.isLt ∧
        t.pool = { s.pool with level := s.pool.level + (getCtx s c).extents.length } ∧
        (∀ k : LaneId, getSlot t k = detachSlot c (getSlot s k) ∧
          ((getFence s k).any (fun g => decide (g.ctx = c)) = true → (getLane s k).head.isSome = true →
            getFence t k = none ∧ (getLane t k).head = none)) ∧
        (getWin t b.win).strikes = min ((getWin s b.win).strikes + 1) 255 ∧
        (getWin t b.win).counters.failed = min ((getWin s b.win).counters.failed + 1) 4294967295 ∧
        (∀ w : WinId, w ≠ b.win → getWin t w = getWin s w) ∧
        t.port = { s.port with q3 := s.port.q3 ++ ringWrites s t } ∧
        t.serial = s.serial ∧ t.builder = s.builder ∧ t.time = time ∧ t.sweeper = s.sweeper ∧
        t.stall = s.stall ∧ t.orders.shadow = s.orders.shadow) ∧
    (2 ≤ n →
      exec (.idleCountEnd c) s =
        .next { s with time := time, ctxs := s.ctxs.set c.val { getCtx s c with idle := some (n - 1) } c.isLt })

/-- R148, R55, R134, R33: a GUARD context whose count a tick ends returns to FREE, and its window's bound count falls by
one; where that falls to 0 on a draining window the staged definition is applied, with a WINDOW-APPLIED. A held read whose
count a tick ends is answered ERROR, its record is removed, and the fence expiry, the window's fence error and the part's
answer are counted. That the tick is delivered before, in TICK, is the model's form (log entry 8). (At the apply nothing
is owed, the record has room, and no sweep of the window is stopped.) -/
def Obligations.GuardAndHoldCountsEnd : Prop :=
  ∀ s : State, RestInv s → AccumulatorInv s → s.engine.state = .running →
    (∀ (c : CtxId) (b : Binding) (n : Nat), (getCtx s c).state = .guard → ctxDue s c = true →
      (getCtx s c).binding = some b → (getCtx s c).guardCount = some n → n ≤ 1 →
      let time := { s.time with ctxDue := s.time.ctxDue.set c.val false c.isLt }
      ((getWin s b.win).staged = none ∨ 2 ≤ (getWin s b.win).bound →
        exec (.guardEnd c) s =
          .next { s with
                  time := time
                  ctxs := s.ctxs.set c.val Context.free c.isLt
                  windows := s.windows.set b.win.val
                    { getWin s b.win with bound := (getWin s b.win).bound - 1 } b.win.isLt }) ∧
      (∀ td : TakenDef, (getWin s b.win).staged = some td → (getWin s b.win).bound = 1 → nothingOwed s = true →
        s.report.list.length < 32 → s.sweeper.job.all (fun j => decide (j.win ≠ b.win)) = true →
        ∃ t : State, exec (.guardEnd c) s = .next t ∧
          t.ctxs = s.ctxs.set c.val Context.free c.isLt ∧
          t.windows = s.windows.set b.win.val (drainedWindow (getWin s b.win) td) b.win.isLt ∧
          reported t = reported s ++
            [.windowApplied b.win (match td with | .enabled _ => .active | .disabled => .off) none] ∧
          t.report.seq = s.report.seq + 1 ∧ t.time = time ∧
          t.port = { s.port with q3 := s.port.q3 ++ ringWrites s t } ∧ ringSide t = ringSide s ∧
          laneSide t = laneSide s ∧ t.engine = s.engine ∧ t.orders.shadow = s.orders.shadow ∧
          t.orders.slot = s.orders.slot ∧
          (t.serial, t.pool, t.builder, t.slots, t.fence) = (s.serial, s.pool, s.builder, s.slots, s.fence) ∧
          (t.sweeper, t.counters, t.choices, t.pending) = (s.sweeper, s.counters, s.choices, s.pending))) ∧
    (∀ (l : LaneId) (g : FenceRec) (h : Head), getFence s l = some g → readDue s l = true → g.hold ≤ 1 →
      (getLane s l).head = some h →
      exec (.holdCountEnd l) s =
        .next { s with
                time := { s.time with readDue := s.time.readDue.set l.val false l.isLt }
                lanes := headGone s l
                upOut := s.upOut ++ [errorTo h.req]
                fence := s.fence.set l.val none l.isLt
                windows := s.windows.set g.win.val
                  { getWin s g.win with
                    counters := { (getWin s g.win).counters with
                      fenceErrors := min ((getWin s g.win).counters.fenceErrors + 1) 4294967295 } } g.win.isLt
                counters := { s.counters with
                  partAnswers := min (s.counters.partAnswers + 1) 4294967295
                  fenceExpiries := min (s.counters.fenceExpiries + 1) 4294967295 } })

/-- R143, R173: at a tick with pending settings they become those in force, the countdown is loaded or becomes absent, and
ATTN follows the adopted enable; that the microsecond count stays as it is, however long after the tick the event comes,
is the model's choice (log entry 33). R150, R167: at a tick that ends the countdown it is loaded again and a snapshot is
requested. That the tick is delivered before, in TICK, is the model's form (log entry 8). -/
def Obligations.SettingsAdoptedAndCountdownEnds : Prop :=
  ∀ s : State, RestInv s → s.engine.state = .running → s.time.tickOpen = true →
    (∀ v : Settings, s.time.pendingSettings = some v →
      exec .settingsAdopt s =
        .next { s with
                time := { s.time with
                  interval := v.interval, period := v.period, pendingSettings := none, tickOpen := false
                  countdown := if v.period = 0 then none else some v.period }
                report := { s.report with attnEnable := v.attn }
                engine := { s.engine with attn := v.attn && decide (s.report.producer ≠ s.report.consumer) } }) ∧
    (∀ n : Nat, s.time.pendingSettings = none → s.time.countdown = some n → n ≤ 1 →
      let time := { s.time with countdown := some s.time.period, tickOpen := false }
      (s.report.snapWriting = none →
        exec .snapshotCountdownEnd s =
          .next { s with
                  time := time
                  report := { s.report with snapNumber := s.report.snapNumber + 1, snapWriting := some 0 }
                  port := { s.port with q3 := s.port.q3 ++
                    [{ kind := .write, addr := pageAddr s 0x100, count := 256
                       data := engineStatus
                         { s with report := { s.report with snapNumber := s.report.snapNumber + 1 } }
                       owner := .statusBlock }] } }) ∧
      (s.report.snapWriting.isSome = true →
        exec .snapshotCountdownEnd s =
          .next { s with time := time, report := { s.report with snapRepeat := true } }))

/-! ### Results -/

/-- R167: an OKAY to a status block's write hands over the next block, the status block of a window, 64 bytes at page
offset 0x1000 + 64 w; after block 16 the snapshot ends, or a new one begins where the repeat flag is set. -/
def Obligations.StatusBlocksFollowInOrder : Prop :=
  ∀ (id n : Nat) (m : MemReq) (s : State), findIssued s id = some m → m.owner = .statusBlock →
    s.report.snapWriting = some n →
    let out := s.port.outstanding.filter fun o => decide (o.id ≠ id)
    (∀ w : WinId, n = w.val →
      exec (.statusBlockWriteDone id) s =
        .next { s with
                report := { s.report with snapWriting := some (n + 1) }
                port := { s.port with
                  outstanding := out
                  q3 := s.port.q3 ++
                    [{ kind := .write, addr := pageAddr s (0x1000 + 64 * w.val), count := 64
                       data := windowStatus s w, owner := .statusBlock }] } }) ∧
    (16 ≤ n → s.report.snapRepeat = false →
      exec (.statusBlockWriteDone id) s =
        .next { s with
                report := { s.report with snapWriting := none }
                port := { s.port with outstanding := out } }) ∧
    (16 ≤ n → s.report.snapRepeat = true →
      exec (.statusBlockWriteDone id) s =
        .next { s with
                report := { s.report with
                  snapWriting := some 0, snapRepeat := false, snapNumber := s.report.snapNumber + 1 }
                port := { s.port with
                  outstanding := out
                  q3 := s.port.q3 ++
                    [{ kind := .write, addr := pageAddr s 0x100, count := 256
                       data := engineStatus
                         { s with report := { s.report with snapNumber := s.report.snapNumber + 1 } }
                       owner := .statusBlock }] } })

/-- R171, R173, R170, R165: an OKAY to the record in flight raises the producer count, hands over the write of the
producer word, and lets the next record leave where the ring has room for it; ATTN is evaluated. Where a record leaves,
the room is granted to what is owed, window records by window, transfer reports by context, the sweeper's, and the
ORDER-DONE last, until the first item that does not fit; each is built as its producer's state stands, numbered, and owed
no longer, and an Order Unit that has become able is due an examination. An OKAY to a producer word's write changes
nothing else (the model's choice, log entry 5). -/
def Obligations.RecordsAreCounted : Prop :=
  ∀ (id : Nat) (m : MemReq) (s : State), findIssued s id = some m →
    let out := s.port.outstanding.filter fun o => decide (o.id ≠ id)
    let word : MemReq := { kind := .write, addr := pageAddr s 0x44, count := 4
                           data := leBytes 4 (s.report.producer + 1).toNat, owner := .producerWord }
    (m.owner = .producerWord →
      exec (.recordWriteDone id) s = .next { s with port := { s.port with outstanding := out } }) ∧
    (∀ r : Record, m.owner = .record → s.engine.state = .running → s.report.inFlight = some r → ContextsBound s →
      let grants := granted (33 - s.report.list.length) (owedGroups s)
      ∃ t : State, exec (.recordWriteDone id) s = .next t ∧
        t.report.producer = s.report.producer + 1 ∧ t.report.consumer = s.report.consumer ∧
        t.report.attnEnable = s.report.attnEnable ∧
        t.engine = { s.engine with
          attn := s.report.attnEnable && decide (s.report.producer + 1 ≠ s.report.consumer) } ∧
        (∀ (x : Record) (rest : List Record), s.report.list = x :: rest →
          (s.report.producer + 1 - s.report.consumer).toNat < 256 → s.report.list.length ≤ 32 →
          t.report.inFlight = some x ∧ t.report.list.take rest.length = rest ∧
          t.report.list.map (·.body) = rest.map (·.body) ++ grants.1 ∧ owedGroups t = grants.2 ∧
          t.report.seq = s.report.seq + BitVec.ofNat 32 grants.1.length) ∧
        (s.report.list = [] ∨ 256 ≤ (s.report.producer + 1 - s.report.consumer).toNat →
          t.report.inFlight = none ∧ t.report.list = s.report.list ∧ owedGroups t = owedGroups s ∧
          t.report.seq = s.report.seq) ∧
        t.port = { s.port with
          outstanding := out
          q3 := s.port.q3 ++ [word] ++ (match t.report.inFlight with
            | some x => [{ kind := .write
                           addr := pageAddr s (0x2000 + 32 * ((s.report.producer + 1).toNat % 256)), count := 32
                           data := recordBytes x, owner := .record }]
            | none => []) } ∧
        t.orders = { s.orders with
          waitingDone := t.orders.waitingDone, examDue := s.orders.examDue || (!able s && able t) } ∧
        (∀ w : WinId, getWin t w = { getWin s w with
          owedApplied := (getWin t w).owedApplied, owedFenced := (getWin t w).owedFenced }) ∧
        (∀ c : CtxId, getCtx t c = { getCtx s c with owed := (getCtx t c).owed }) ∧
        t.sweeper = { s.sweeper with waiting := t.sweeper.waiting } ∧ laneSide t = laneSide s ∧
        (t.serial, t.pool, t.builder, t.slots, t.fence) = (s.serial, s.pool, s.builder, s.slots, s.fence) ∧
        (t.time, t.counters, t.choices, t.pending) = (s.time, s.counters, s.choices, s.pending))

/-! ### Sweeps -/

/-- R155, R154, R156, R157, R160: the visit of a bay that is unbound or not VERIFIED is skipped and ends. That of a VERIFIED
bay with L above 0 makes a visit record with V = 0 and hands over the reads of its first chunk. That of a VERIFIED bay with
L = 0 is judged at once with V = 0: checked where the verified check value is 0, and otherwise CORRUPTED, cause
CHECK-DIFFERS. Where a visit ends, the sweep goes on to the next bay of the pass, or, at the pass's last, reports a
SWEEP-DONE, cause PASS-END, and becomes IDLE or, under REPEAT, begins again with pass counts of 0. (Where anything is
reported, nothing is owed and the records have room.) -/
def Obligations.VisitBeginsOrIsSkipped : Prop :=
  ∀ (j : SweepJob) (s : State), RestInv s → s.engine.state = .running → s.sweeper.state = .running →
    s.sweeper.job = some j → s.sweeper.visit = none → s.sweeper.waiting = [] →
    (bayState s j.win j.current ≠ some .verified → j.current ≠ j.last →
      exec .visitBegin s =
        .next { s with sweeper := { s.sweeper with
          skipped := s.sweeper.skipped + 1
          state := if j.mode = .step then .waitingStep else .running
          job := some { j with
            current := if j.current + 1 < bayCount s j.win then j.current + 1 else 0 } } }) ∧
    (bayState s j.win j.current ≠ some .verified → nothingOwed s = true → s.report.list.length < 32 →
      ∃ t : State, exec .visitBegin s = .next t ∧
        VisitOver s t j { s.sweeper with skipped := s.sweeper.skipped + 1 }) ∧
    (∀ (c : CtxId) (b : Binding), lookup s j.win j.current = some c → (getCtx s c).state = .verified →
      (getCtx s c).binding = some b → (getCtx s c).len = some 0 → nothingOwed s = true →
      s.report.list.length + 6 ≤ 32 →
      ((getCtx s c).verifiedCheck = some 0 →
        ∃ t : State, exec .visitBegin s = .next t ∧
          VisitOver s t j { s.sweeper with checked := s.sweeper.checked + 1 }) ∧
      ((getCtx s c).verifiedCheck ≠ some 0 →
        ∃ t : State, exec .visitBegin s = .next t ∧ VisitFailed s t c b j .checkDiffers (some 0))) ∧
    (∀ (c : CtxId) (b : Binding) (d : WinDef) (n : Nat), lookup s j.win j.current = some c →
      (getCtx s c).state = .verified → (getCtx s c).binding = some b → (getWin s b.win).defn = some d →
      (getCtx s c).len = some (n + 1) →
      exec .visitBegin s =
        .next { s with
                sweeper := { s.sweeper with
                  visit := some { ctx := c, number := b.number, len := n + 1, sum := 0, chunk := 0,
                                  reads := chunkReads (n + 1) 0 } }
                port := { s.port with q4 := s.port.q4 ++
                  ((List.range 16).filter fun i => decide (256 * i < n + 1)).map fun i =>
                    { kind := .read, addr := BitVec.ofNat 40 (d.bayBase b.bay + 256 * i),
                      count := min 256 (n + 1 - 256 * i), data := [], owner := .recheck (256 * i) } } })

/-- R156, R157, R19, R154: an OKAY to a recheck read adds its contribution to V. While a read of the chunk is unanswered the
visit goes on. With the last of the chunk, the reads of the next chunk are handed over while bytes below L remain. With
the last of the visit, V is compared with the verified check value: equal, the visit counts as checked; unequal, the
transfer is CORRUPTED, cause CHECK-DIFFERS, with a RECHECK-FAIL carrying V. The sweep then goes on, or its pass ends.
(In the second clause the bay is not the pass's last; where anything is reported, nothing is owed and the records have
room.) -/
def Obligations.RecheckReadsAreSummed : Prop :=
  ∀ (id off : Nat) (data : List Byte) (m : MemReq) (v : Visit) (j : SweepJob) (s : State), RestInv s →
    s.engine.state = .running → findIssued s id = some m → m.owner = .recheck off → data.length = m.count →
    s.sweeper.visit = some v → s.sweeper.job = some j →
    let reads := v.reads.map fun x => if x.off = off then { x with standing := .answered } else x
    let sum := addMod v.sum (contribution ((getCtx s v.ctx).ladder.getD []) off data)
    let out := s.port.outstanding.filter fun o => decide (o.id ≠ id)
    (reads.any (fun x => decide (x.standing ≠ .answered)) = true →
      exec (.recheckReadDone id data) s =
        .next { s with
                sweeper := { s.sweeper with visit := some { v with reads := reads, sum := sum } }
                port := { s.port with outstanding := out } }) ∧
    (reads.all (fun x => decide (x.standing = .answered)) = true → v.len ≤ 4096 * (v.chunk + 1) →
      (getCtx s v.ctx).verifiedCheck = some sum → j.current ≠ j.last →
      exec (.recheckReadDone id data) s =
        .next { s with
                sweeper := { s.sweeper with
                  visit := none, checked := s.sweeper.checked + 1
                  state := if j.mode = .step then .waitingStep else .running
                  job := some { j with
                    current := if j.current + 1 < bayCount s j.win then j.current + 1 else 0 } }
                port := { s.port with q4 := [], outstanding := out.map (orphanWhere Owner.isRecheck) } }) ∧
    (reads.all (fun x => decide (x.standing = .answered)) = true → v.len ≤ 4096 * (v.chunk + 1) →
      nothingOwed s = true → s.report.list.length + 6 ≤ 32 →
      let ended := { s with
        sweeper := { s.sweeper with visit := none }
        port := { s.port with q4 := [], outstanding := out.map (orphanWhere Owner.isRecheck) } }
      ((getCtx s v.ctx).verifiedCheck = some sum →
        ∃ t : State, exec (.recheckReadDone id data) s = .next t ∧
          VisitOver ended t j { s.sweeper with checked := s.sweeper.checked + 1 }) ∧
      (∀ b : Binding, (getCtx s v.ctx).verifiedCheck ≠ some sum → (getCtx s v.ctx).state = .verified →
        (getCtx s v.ctx).binding = some b →
        ∃ t : State, exec (.recheckReadDone id data) s = .next t ∧
          VisitFailed ended t v.ctx b j .checkDiffers (some sum))) ∧
    (∀ (b : Binding) (d : WinDef), reads.all (fun x => decide (x.standing = .answered)) = true →
      4096 * (v.chunk + 1) < v.len → (getCtx s v.ctx).binding = some b → (getWin s b.win).defn = some d →
      exec (.recheckReadDone id data) s =
        .next { s with
                sweeper := { s.sweeper with
                  visit := some { v with sum := sum, chunk := v.chunk + 1, reads := chunkReads v.len (v.chunk + 1) } }
                port := { s.port with
                  outstanding := out
                  q4 := s.port.q4 ++
                    (((List.range 16).map fun i => 4096 * (v.chunk + 1) + 256 * i).filter fun a =>
                      decide (a < v.len)).map fun a =>
                        { kind := .read, addr := BitVec.ofNat 40 (d.bayBase b.bay + a)
                          count := min 256 (v.len - a), data := [], owner := .recheck a } } })

/-- R157, R50: an ERROR to a recheck read makes the VERIFIED transfer CORRUPTED, cause READ-ERROR, whatever the other
reads' standing: the window counts a strike, the failed count rises, the TRANSFER-END group and a RECHECK-FAIL without
a recomputed check follow, and the chunk's other reads are withdrawn or given up. (Nothing is owed, the records have
room, the window is not fenced by the strike, and the bay is not the pass's last.) -/
def Obligations.RecheckErrorCorrupts : Prop :=
  ∀ (id off : Nat) (m : MemReq) (v : Visit) (j : SweepJob) (b : Binding) (s : State), s.engine.state = .running →
    findIssued s id = some m → m.owner = .recheck off → s.sweeper.visit = some v → s.sweeper.job = some j →
    (getCtx s v.ctx).state = .verified → (getCtx s v.ctx).binding = some b → nothingOwed s = true →
    s.report.list.length + 4 ≤ 32 → j.current ≠ j.last → (getWin s b.win).state = .fenced ∨
      (getWin s b.win).defn.all (fun d => decide (d.threshold = 0 ∨ (getWin s b.win).strikes + 1 < d.threshold)) =
        true →
    let cx := getCtx s v.ctx
    let f : FinalRec := { state := .corrupted, cause := .readError }
    ∃ t : State, exec (.recheckReadError id) s = .next t ∧
      t.ctxs = s.ctxs.set v.ctx.val { cx with state := .corrupted, second := some f } v.ctx.isLt ∧
      t.windows = s.windows.set b.win.val
        { getWin s b.win with
          strikes := min ((getWin s b.win).strikes + 1) 255
          counters := { (getWin s b.win).counters with
            failed := min ((getWin s b.win).counters.failed + 1) 4294967295 } } b.win.isLt ∧
      reported t = reported s ++
        [.transferEnd f v.ctx b.win b.bay b.number cx.len cx.tflags cx.acc,
          .transferIds v.ctx b.number cx.chk cx.objId,
          .transferCounts v.ctx cx.newBytes cx.reconBytes cx.strayBytes cx.rejWrites cx.afterEnd,
          .recheckFail .readError v.ctx b.win b.bay b.number none (cx.verifiedCheck.getD 0)] ∧
      t.sweeper = { s.sweeper with
        visit := none, failed := s.sweeper.failed + 1
        state := if j.mode = .step then .waitingStep else .running
        job := some { j with current := if j.current + 1 < bayCount s j.win then j.current + 1 else 0 } } ∧
      t.port = { s.port with
        q3 := s.port.q3 ++ ringWrites s t, q4 := []
        outstanding := (s.port.outstanding.filter fun o => decide (o.id ≠ id)).map
          (orphanWhere Owner.isRecheck) } ∧
      laneSide t = laneSide s ∧ t.serial = s.serial ∧ t.pool = s.pool ∧ t.builder = s.builder ∧
      t.slots = s.slots ∧ t.fence = s.fence ∧ t.time = s.time ∧ t.counters = s.counters ∧
      ringSide t = ringSide s ∧ t.orders.shadow = s.orders.shadow

/-! ### The check and the coverage lists -/

/-- R2: the reduction by folding of every value up to the largest that the Check Unit reduces, p (p - 1), is its residue
modulo p, in [0, p - 1]; that bound covers 64-bit keys, and products, products plus a byte, and sums of two or three
operands in [0, p - 1]. -/
def Obligations.ReductionIsTheResidue : Prop :=
  (∀ x : Nat, x ≤ P * (P - 1) → reduce x = x % P ∧ reduce x < P) ∧
  (∀ k : Word64, k.toNat ≤ P * (P - 1)) ∧
  (∀ x y : Nat, x < P → y < P → mulMod x y = x * y % P) ∧
  (∀ x y : Nat, ∀ d : Byte, x < P → y < P → reduce (x * y + d.toNat) = (x * y + d.toNat) % P) ∧
  (∀ x y z : Nat, x < P → y < P → z < P → addMod x y = (x + y) % P ∧ reduce (x + y + z) = (x + y + z) % P)

/-- R5, R10: entry k of the ladder of a key is r^(2^k) mod p, and the power formed from it at an offset a below 2^26 is
r^a mod p. -/
def Obligations.PowersFromTheLadder : Prop :=
  ∀ r : Nat, r < P →
    (ladderOf r).length = 26 ∧ (∀ k : Nat, k < 26 → (ladderOf r)[k]? = some (r ^ 2 ^ k % P)) ∧
    ∀ a : Nat, a < 67108864 → powerAt (ladderOf r) a = r ^ a % P

/-- R11: the contribution of a piece of bytes at an offset is the sum of its bytes, each weighted by the key's power at
its own offset, modulo p; and a run of bytes cut in two has the same total. -/
def Obligations.ContributionIsTheWeightedSum : Prop :=
  ∀ (r a : Nat) (x y : List Byte), r < P → a + x.length + y.length ≤ 67108864 →
    contribution (ladderOf r) a x = weightedSum r a x % P ∧
    contribution (ladderOf r) a (x ++ y) =
      (contribution (ladderOf r) a x + contribution (ladderOf r) (a + x.length) y) % P

/-- R68, R69: the division of a write of n bytes at offset a. The effective range is its bytes below L, the overlapped
offsets are those of it in an extent, the new ones the rest; both lists of pieces are in increasing order, nonempty, and
do not touch one another within a list; and the lengths with the stray bytes add up to n. -/
def Obligations.DivisionOfAWrite : Prop :=
  ∀ (list : List Extent) (len : Option Nat) (a n : Nat), extentsWf list = true →
    let v := divide list len a n
    (∀ x : Nat, a ≤ x ∧ x < v.stop ↔ a ≤ x ∧ x < a + n ∧ len.all (fun m => decide (x < m)) = true) ∧
    (∀ x : Nat, covered v.overlap x ↔ (a ≤ x ∧ x < v.stop) ∧ covered list x) ∧
    (∀ x : Nat, covered v.fresh x ↔ (a ≤ x ∧ x < v.stop) ∧ ¬ covered list x) ∧
    extentsWf v.overlap = true ∧ extentsWf v.fresh = true ∧
    totalLength v.fresh + totalLength v.overlap + v.stray = n

/-- R70: inserting the nonempty range [e, f) keeps the form of R67, covers what was covered and the range, and replaces
the k extents that meet it by one, so that the length rises by 1 for k = 0 and falls by k - 1 otherwise. -/
def Obligations.InsertionKeepsTheForm : Prop :=
  ∀ (list : List Extent) (e f : Nat), extentsWf list = true → e < f →
    extentsWf (insertRange e f list) = true ∧
    (∀ x : Nat, covered (insertRange e f list) x ↔ covered list x ∨ (e ≤ x ∧ x < f)) ∧
    (insertRange e f list).length + meetCount e f list = list.length + 1

/-! ### What every step keeps -/

/-- The state after pin reset has every property that the statements below say every step keeps. -/
def Obligations.ResetHasEveryInvariant : Prop :=
  ShadowInv State.reset ∧ RestInv State.reset ∧ QueueInv State.reset ∧ AccumulatorInv State.reset ∧
    PoolInv State.reset ∧ ReconcileInv State.reset ∧ BoundInv State.reset ∧ BindingInv State.reset ∧ BuilderInv State.reset ∧
    RegionInv State.reset

/-- R164: every step keeps the shadow canonical and within the software-owned areas. -/
def Obligations.StepKeepsTheShadow : Prop :=
  ∀ s t : State, ShadowInv s → step s = .next t → ShadowInv t

/-- R173, R171 and section 12.6: every step keeps ATTN and FAULT_N as the state says, and leaves no record in the
pending list that may leave it. -/
def Obligations.StepKeepsPinsAndDrain : Prop :=
  ∀ s t : State, RestInv s → step s = .next t → RestInv t

/-- R114, R115, R169, R171: every step keeps the lanes' requests of the link's format, and the bounds of the backlogs, the
pending list and the result ring. -/
def Obligations.StepKeepsQueueBounds : Prop :=
  ∀ s t : State, QueueInv s → step s = .next t → QueueInv t

/-- R1, R40, R55: every step keeps every accumulator in [0, p - 1], a FREE context without any item, and a GUARD
context without an owed report. -/
def Obligations.StepKeepsAccumulators : Prop :=
  ∀ s t : State, AccumulatorInv s → step s = .next t → AccumulatorInv t

/-- R65, R66, R67: every step keeps the 2048 extent records between the pool and the lists of COLLECTING contexts, and
the form of the lists. -/
def Obligations.StepKeepsTheExtentPool : Prop :=
  ∀ s t : State, PoolInv s → step s = .next t → PoolInv t

/-- R101, R131, R40: every step keeps the heads held for RECONCILE and FENCE in step with the slots and the held reads,
and each reconcile count the number of ATTACHED slots naming its context. -/
def Obligations.StepKeepsReconcileCounts : Prop :=
  ∀ s t : State, ReconcileInv s → step s = .next t → ReconcileInv t

/-- R30, R33, R40, R62: every step keeps each window's bound count the number of contexts bound to its bays, a staged
definition only where one is bound, and an owed report only with a bound context whose transfer has ended. -/
def Obligations.StepKeepsBoundCounts : Prop :=
  ∀ s t : State, BoundInv s → step s = .next t → BoundInv t

/-- R41: every step keeps a (window, bay) pair bound to at most one context. -/
def Obligations.StepKeepsTheBindingMap : Prop :=
  ∀ s t : State, BindingInv s → step s = .next t → BindingInv t

/-- R6: every step keeps the builder's contexts different and PRIMING, and an IDLE builder's queue empty. -/
def Obligations.StepKeepsTheBuildQueue : Prop :=
  ∀ s t : State, BuilderInv s → step s = .next t → BuilderInv t

/-- R22, R32: every step keeps the regions of different windows, in force or staged, apart from one another and from the
control page. -/
def Obligations.StepKeepsRegionsApart : Prop :=
  ∀ s t : State, RegionInv s → step s = .next t → RegionInv t
end

