-- ==== Sys2Proof/Laws/State.lean ====
section
/-! SUPPORT. What each update of the state does to each field and to each table, for `simp`. -/

namespace Sys2Proof.Machine

/-! ### setLane -/

@[simp] theorem setLane_engine (s : State) (l : LaneId) (x : Lane) : (setLane s l x).engine = s.engine := rfl
@[simp] theorem setLane_lanes (s : State) (l : LaneId) (x : Lane) : (setLane s l x).lanes = s.lanes.set l.val x l.isLt := rfl
@[simp] theorem setLane_stall (s : State) (l : LaneId) (x : Lane) : (setLane s l x).stall = s.stall := rfl
@[simp] theorem setLane_upOut (s : State) (l : LaneId) (x : Lane) : (setLane s l x).upOut = s.upOut := rfl
@[simp] theorem setLane_port (s : State) (l : LaneId) (x : Lane) : (setLane s l x).port = s.port := rfl
@[simp] theorem setLane_windows (s : State) (l : LaneId) (x : Lane) : (setLane s l x).windows = s.windows := rfl
@[simp] theorem setLane_ctxs (s : State) (l : LaneId) (x : Lane) : (setLane s l x).ctxs = s.ctxs := rfl
@[simp] theorem setLane_serial (s : State) (l : LaneId) (x : Lane) : (setLane s l x).serial = s.serial := rfl
@[simp] theorem setLane_pool (s : State) (l : LaneId) (x : Lane) : (setLane s l x).pool = s.pool := rfl
@[simp] theorem setLane_builder (s : State) (l : LaneId) (x : Lane) : (setLane s l x).builder = s.builder := rfl
@[simp] theorem setLane_slots (s : State) (l : LaneId) (x : Lane) : (setLane s l x).slots = s.slots := rfl
@[simp] theorem setLane_fence (s : State) (l : LaneId) (x : Lane) : (setLane s l x).fence = s.fence := rfl
@[simp] theorem setLane_time (s : State) (l : LaneId) (x : Lane) : (setLane s l x).time = s.time := rfl
@[simp] theorem setLane_report (s : State) (l : LaneId) (x : Lane) : (setLane s l x).report = s.report := rfl
@[simp] theorem setLane_orders (s : State) (l : LaneId) (x : Lane) : (setLane s l x).orders = s.orders := rfl
@[simp] theorem setLane_sweeper (s : State) (l : LaneId) (x : Lane) : (setLane s l x).sweeper = s.sweeper := rfl
@[simp] theorem setLane_counters (s : State) (l : LaneId) (x : Lane) : (setLane s l x).counters = s.counters := rfl
@[simp] theorem setLane_choices (s : State) (l : LaneId) (x : Lane) : (setLane s l x).choices = s.choices := rfl
@[simp] theorem setLane_pending (s : State) (l : LaneId) (x : Lane) : (setLane s l x).pending = s.pending := rfl
@[simp] theorem getSlot_setLane (s : State) (l : LaneId) (x : Lane) (k : LaneId) : getSlot (setLane s l x) k = getSlot s k := rfl
@[simp] theorem getFence_setLane (s : State) (l : LaneId) (x : Lane) (k : LaneId) : getFence (setLane s l x) k = getFence s k := rfl
@[simp] theorem getWin_setLane (s : State) (l : LaneId) (x : Lane) (k : WinId) : getWin (setLane s l x) k = getWin s k := rfl
@[simp] theorem getCtx_setLane (s : State) (l : LaneId) (x : Lane) (k : CtxId) : getCtx (setLane s l x) k = getCtx s k := rfl

/-! ### setSlot -/

@[simp] theorem setSlot_engine (s : State) (l : LaneId) (x : Slot) : (setSlot s l x).engine = s.engine := rfl
@[simp] theorem setSlot_lanes (s : State) (l : LaneId) (x : Slot) : (setSlot s l x).lanes = s.lanes := rfl
@[simp] theorem setSlot_stall (s : State) (l : LaneId) (x : Slot) : (setSlot s l x).stall = s.stall := rfl
@[simp] theorem setSlot_upOut (s : State) (l : LaneId) (x : Slot) : (setSlot s l x).upOut = s.upOut := rfl
@[simp] theorem setSlot_port (s : State) (l : LaneId) (x : Slot) : (setSlot s l x).port = s.port := rfl
@[simp] theorem setSlot_windows (s : State) (l : LaneId) (x : Slot) : (setSlot s l x).windows = s.windows := rfl
@[simp] theorem setSlot_ctxs (s : State) (l : LaneId) (x : Slot) : (setSlot s l x).ctxs = s.ctxs := rfl
@[simp] theorem setSlot_serial (s : State) (l : LaneId) (x : Slot) : (setSlot s l x).serial = s.serial := rfl
@[simp] theorem setSlot_pool (s : State) (l : LaneId) (x : Slot) : (setSlot s l x).pool = s.pool := rfl
@[simp] theorem setSlot_builder (s : State) (l : LaneId) (x : Slot) : (setSlot s l x).builder = s.builder := rfl
@[simp] theorem setSlot_slots (s : State) (l : LaneId) (x : Slot) : (setSlot s l x).slots = s.slots.set l.val x l.isLt := rfl
@[simp] theorem setSlot_fence (s : State) (l : LaneId) (x : Slot) : (setSlot s l x).fence = s.fence := rfl
@[simp] theorem setSlot_time (s : State) (l : LaneId) (x : Slot) : (setSlot s l x).time = s.time := rfl
@[simp] theorem setSlot_report (s : State) (l : LaneId) (x : Slot) : (setSlot s l x).report = s.report := rfl
@[simp] theorem setSlot_orders (s : State) (l : LaneId) (x : Slot) : (setSlot s l x).orders = s.orders := rfl
@[simp] theorem setSlot_sweeper (s : State) (l : LaneId) (x : Slot) : (setSlot s l x).sweeper = s.sweeper := rfl
@[simp] theorem setSlot_counters (s : State) (l : LaneId) (x : Slot) : (setSlot s l x).counters = s.counters := rfl
@[simp] theorem setSlot_choices (s : State) (l : LaneId) (x : Slot) : (setSlot s l x).choices = s.choices := rfl
@[simp] theorem setSlot_pending (s : State) (l : LaneId) (x : Slot) : (setSlot s l x).pending = s.pending := rfl
@[simp] theorem getLane_setSlot (s : State) (l : LaneId) (x : Slot) (k : LaneId) : getLane (setSlot s l x) k = getLane s k := rfl
@[simp] theorem getFence_setSlot (s : State) (l : LaneId) (x : Slot) (k : LaneId) : getFence (setSlot s l x) k = getFence s k := rfl
@[simp] theorem getWin_setSlot (s : State) (l : LaneId) (x : Slot) (k : WinId) : getWin (setSlot s l x) k = getWin s k := rfl
@[simp] theorem getCtx_setSlot (s : State) (l : LaneId) (x : Slot) (k : CtxId) : getCtx (setSlot s l x) k = getCtx s k := rfl

/-! ### setFence -/

@[simp] theorem setFence_engine (s : State) (l : LaneId) (x : Option FenceRec) : (setFence s l x).engine = s.engine := rfl
@[simp] theorem setFence_lanes (s : State) (l : LaneId) (x : Option FenceRec) : (setFence s l x).lanes = s.lanes := rfl
@[simp] theorem setFence_stall (s : State) (l : LaneId) (x : Option FenceRec) : (setFence s l x).stall = s.stall := rfl
@[simp] theorem setFence_upOut (s : State) (l : LaneId) (x : Option FenceRec) : (setFence s l x).upOut = s.upOut := rfl
@[simp] theorem setFence_port (s : State) (l : LaneId) (x : Option FenceRec) : (setFence s l x).port = s.port := rfl
@[simp] theorem setFence_windows (s : State) (l : LaneId) (x : Option FenceRec) : (setFence s l x).windows = s.windows := rfl
@[simp] theorem setFence_ctxs (s : State) (l : LaneId) (x : Option FenceRec) : (setFence s l x).ctxs = s.ctxs := rfl
@[simp] theorem setFence_serial (s : State) (l : LaneId) (x : Option FenceRec) : (setFence s l x).serial = s.serial := rfl
@[simp] theorem setFence_pool (s : State) (l : LaneId) (x : Option FenceRec) : (setFence s l x).pool = s.pool := rfl
@[simp] theorem setFence_builder (s : State) (l : LaneId) (x : Option FenceRec) : (setFence s l x).builder = s.builder := rfl
@[simp] theorem setFence_slots (s : State) (l : LaneId) (x : Option FenceRec) : (setFence s l x).slots = s.slots := rfl
@[simp] theorem setFence_fence (s : State) (l : LaneId) (x : Option FenceRec) : (setFence s l x).fence = s.fence.set l.val x l.isLt := rfl
@[simp] theorem setFence_time (s : State) (l : LaneId) (x : Option FenceRec) : (setFence s l x).time = s.time := rfl
@[simp] theorem setFence_report (s : State) (l : LaneId) (x : Option FenceRec) : (setFence s l x).report = s.report := rfl
@[simp] theorem setFence_orders (s : State) (l : LaneId) (x : Option FenceRec) : (setFence s l x).orders = s.orders := rfl
@[simp] theorem setFence_sweeper (s : State) (l : LaneId) (x : Option FenceRec) : (setFence s l x).sweeper = s.sweeper := rfl
@[simp] theorem setFence_counters (s : State) (l : LaneId) (x : Option FenceRec) : (setFence s l x).counters = s.counters := rfl
@[simp] theorem setFence_choices (s : State) (l : LaneId) (x : Option FenceRec) : (setFence s l x).choices = s.choices := rfl
@[simp] theorem setFence_pending (s : State) (l : LaneId) (x : Option FenceRec) : (setFence s l x).pending = s.pending := rfl
@[simp] theorem getLane_setFence (s : State) (l : LaneId) (x : Option FenceRec) (k : LaneId) : getLane (setFence s l x) k = getLane s k := rfl
@[simp] theorem getSlot_setFence (s : State) (l : LaneId) (x : Option FenceRec) (k : LaneId) : getSlot (setFence s l x) k = getSlot s k := rfl
@[simp] theorem getWin_setFence (s : State) (l : LaneId) (x : Option FenceRec) (k : WinId) : getWin (setFence s l x) k = getWin s k := rfl
@[simp] theorem getCtx_setFence (s : State) (l : LaneId) (x : Option FenceRec) (k : CtxId) : getCtx (setFence s l x) k = getCtx s k := rfl

/-! ### setWin -/

@[simp] theorem setWin_engine (s : State) (w : WinId) (x : Window) : (setWin s w x).engine = s.engine := rfl
@[simp] theorem setWin_lanes (s : State) (w : WinId) (x : Window) : (setWin s w x).lanes = s.lanes := rfl
@[simp] theorem setWin_stall (s : State) (w : WinId) (x : Window) : (setWin s w x).stall = s.stall := rfl
@[simp] theorem setWin_upOut (s : State) (w : WinId) (x : Window) : (setWin s w x).upOut = s.upOut := rfl
@[simp] theorem setWin_port (s : State) (w : WinId) (x : Window) : (setWin s w x).port = s.port := rfl
@[simp] theorem setWin_windows (s : State) (w : WinId) (x : Window) : (setWin s w x).windows = s.windows.set w.val x w.isLt := rfl
@[simp] theorem setWin_ctxs (s : State) (w : WinId) (x : Window) : (setWin s w x).ctxs = s.ctxs := rfl
@[simp] theorem setWin_serial (s : State) (w : WinId) (x : Window) : (setWin s w x).serial = s.serial := rfl
@[simp] theorem setWin_pool (s : State) (w : WinId) (x : Window) : (setWin s w x).pool = s.pool := rfl
@[simp] theorem setWin_builder (s : State) (w : WinId) (x : Window) : (setWin s w x).builder = s.builder := rfl
@[simp] theorem setWin_slots (s : State) (w : WinId) (x : Window) : (setWin s w x).slots = s.slots := rfl
@[simp] theorem setWin_fence (s : State) (w : WinId) (x : Window) : (setWin s w x).fence = s.fence := rfl
@[simp] theorem setWin_time (s : State) (w : WinId) (x : Window) : (setWin s w x).time = s.time := rfl
@[simp] theorem setWin_report (s : State) (w : WinId) (x : Window) : (setWin s w x).report = s.report := rfl
@[simp] theorem setWin_orders (s : State) (w : WinId) (x : Window) : (setWin s w x).orders = s.orders := rfl
@[simp] theorem setWin_sweeper (s : State) (w : WinId) (x : Window) : (setWin s w x).sweeper = s.sweeper := rfl
@[simp] theorem setWin_counters (s : State) (w : WinId) (x : Window) : (setWin s w x).counters = s.counters := rfl
@[simp] theorem setWin_choices (s : State) (w : WinId) (x : Window) : (setWin s w x).choices = s.choices := rfl
@[simp] theorem setWin_pending (s : State) (w : WinId) (x : Window) : (setWin s w x).pending = s.pending := rfl
@[simp] theorem getLane_setWin (s : State) (w : WinId) (x : Window) (k : LaneId) : getLane (setWin s w x) k = getLane s k := rfl
@[simp] theorem getSlot_setWin (s : State) (w : WinId) (x : Window) (k : LaneId) : getSlot (setWin s w x) k = getSlot s k := rfl
@[simp] theorem getFence_setWin (s : State) (w : WinId) (x : Window) (k : LaneId) : getFence (setWin s w x) k = getFence s k := rfl
@[simp] theorem getCtx_setWin (s : State) (w : WinId) (x : Window) (k : CtxId) : getCtx (setWin s w x) k = getCtx s k := rfl

/-! ### setCtx -/

@[simp] theorem setCtx_engine (s : State) (c : CtxId) (x : Context) : (setCtx s c x).engine = s.engine := rfl
@[simp] theorem setCtx_lanes (s : State) (c : CtxId) (x : Context) : (setCtx s c x).lanes = s.lanes := rfl
@[simp] theorem setCtx_stall (s : State) (c : CtxId) (x : Context) : (setCtx s c x).stall = s.stall := rfl
@[simp] theorem setCtx_upOut (s : State) (c : CtxId) (x : Context) : (setCtx s c x).upOut = s.upOut := rfl
@[simp] theorem setCtx_port (s : State) (c : CtxId) (x : Context) : (setCtx s c x).port = s.port := rfl
@[simp] theorem setCtx_windows (s : State) (c : CtxId) (x : Context) : (setCtx s c x).windows = s.windows := rfl
@[simp] theorem setCtx_ctxs (s : State) (c : CtxId) (x : Context) : (setCtx s c x).ctxs = s.ctxs.set c.val x c.isLt := rfl
@[simp] theorem setCtx_serial (s : State) (c : CtxId) (x : Context) : (setCtx s c x).serial = s.serial := rfl
@[simp] theorem setCtx_pool (s : State) (c : CtxId) (x : Context) : (setCtx s c x).pool = s.pool := rfl
@[simp] theorem setCtx_builder (s : State) (c : CtxId) (x : Context) : (setCtx s c x).builder = s.builder := rfl
@[simp] theorem setCtx_slots (s : State) (c : CtxId) (x : Context) : (setCtx s c x).slots = s.slots := rfl
@[simp] theorem setCtx_fence (s : State) (c : CtxId) (x : Context) : (setCtx s c x).fence = s.fence := rfl
@[simp] theorem setCtx_time (s : State) (c : CtxId) (x : Context) : (setCtx s c x).time = s.time := rfl
@[simp] theorem setCtx_report (s : State) (c : CtxId) (x : Context) : (setCtx s c x).report = s.report := rfl
@[simp] theorem setCtx_orders (s : State) (c : CtxId) (x : Context) : (setCtx s c x).orders = s.orders := rfl
@[simp] theorem setCtx_sweeper (s : State) (c : CtxId) (x : Context) : (setCtx s c x).sweeper = s.sweeper := rfl
@[simp] theorem setCtx_counters (s : State) (c : CtxId) (x : Context) : (setCtx s c x).counters = s.counters := rfl
@[simp] theorem setCtx_choices (s : State) (c : CtxId) (x : Context) : (setCtx s c x).choices = s.choices := rfl
@[simp] theorem setCtx_pending (s : State) (c : CtxId) (x : Context) : (setCtx s c x).pending = s.pending := rfl
@[simp] theorem getLane_setCtx (s : State) (c : CtxId) (x : Context) (k : LaneId) : getLane (setCtx s c x) k = getLane s k := rfl
@[simp] theorem getSlot_setCtx (s : State) (c : CtxId) (x : Context) (k : LaneId) : getSlot (setCtx s c x) k = getSlot s k := rfl
@[simp] theorem getFence_setCtx (s : State) (c : CtxId) (x : Context) (k : LaneId) : getFence (setCtx s c x) k = getFence s k := rfl
@[simp] theorem getWin_setCtx (s : State) (c : CtxId) (x : Context) (k : WinId) : getWin (setCtx s c x) k = getWin s k := rfl

/-! ### modCtx -/

@[simp] theorem modCtx_engine (s : State) (c : CtxId) (f : Context → Context) : (modCtx s c f).engine = s.engine := rfl
@[simp] theorem modCtx_lanes (s : State) (c : CtxId) (f : Context → Context) : (modCtx s c f).lanes = s.lanes := rfl
@[simp] theorem modCtx_stall (s : State) (c : CtxId) (f : Context → Context) : (modCtx s c f).stall = s.stall := rfl
@[simp] theorem modCtx_upOut (s : State) (c : CtxId) (f : Context → Context) : (modCtx s c f).upOut = s.upOut := rfl
@[simp] theorem modCtx_port (s : State) (c : CtxId) (f : Context → Context) : (modCtx s c f).port = s.port := rfl
@[simp] theorem modCtx_windows (s : State) (c : CtxId) (f : Context → Context) : (modCtx s c f).windows = s.windows := rfl
@[simp] theorem modCtx_ctxs (s : State) (c : CtxId) (f : Context → Context) : (modCtx s c f).ctxs = s.ctxs.set c.val (f (getCtx s c)) c.isLt := rfl
@[simp] theorem modCtx_serial (s : State) (c : CtxId) (f : Context → Context) : (modCtx s c f).serial = s.serial := rfl
@[simp] theorem modCtx_pool (s : State) (c : CtxId) (f : Context → Context) : (modCtx s c f).pool = s.pool := rfl
@[simp] theorem modCtx_builder (s : State) (c : CtxId) (f : Context → Context) : (modCtx s c f).builder = s.builder := rfl
@[simp] theorem modCtx_slots (s : State) (c : CtxId) (f : Context → Context) : (modCtx s c f).slots = s.slots := rfl
@[simp] theorem modCtx_fence (s : State) (c : CtxId) (f : Context → Context) : (modCtx s c f).fence = s.fence := rfl
@[simp] theorem modCtx_time (s : State) (c : CtxId) (f : Context → Context) : (modCtx s c f).time = s.time := rfl
@[simp] theorem modCtx_report (s : State) (c : CtxId) (f : Context → Context) : (modCtx s c f).report = s.report := rfl
@[simp] theorem modCtx_orders (s : State) (c : CtxId) (f : Context → Context) : (modCtx s c f).orders = s.orders := rfl
@[simp] theorem modCtx_sweeper (s : State) (c : CtxId) (f : Context → Context) : (modCtx s c f).sweeper = s.sweeper := rfl
@[simp] theorem modCtx_counters (s : State) (c : CtxId) (f : Context → Context) : (modCtx s c f).counters = s.counters := rfl
@[simp] theorem modCtx_choices (s : State) (c : CtxId) (f : Context → Context) : (modCtx s c f).choices = s.choices := rfl
@[simp] theorem modCtx_pending (s : State) (c : CtxId) (f : Context → Context) : (modCtx s c f).pending = s.pending := rfl
@[simp] theorem getLane_modCtx (s : State) (c : CtxId) (f : Context → Context) (k : LaneId) : getLane (modCtx s c f) k = getLane s k := rfl
@[simp] theorem getSlot_modCtx (s : State) (c : CtxId) (f : Context → Context) (k : LaneId) : getSlot (modCtx s c f) k = getSlot s k := rfl
@[simp] theorem getFence_modCtx (s : State) (c : CtxId) (f : Context → Context) (k : LaneId) : getFence (modCtx s c f) k = getFence s k := rfl
@[simp] theorem getWin_modCtx (s : State) (c : CtxId) (f : Context → Context) (k : WinId) : getWin (modCtx s c f) k = getWin s k := rfl

/-! ### modWin -/

@[simp] theorem modWin_engine (s : State) (w : WinId) (f : Window → Window) : (modWin s w f).engine = s.engine := rfl
@[simp] theorem modWin_lanes (s : State) (w : WinId) (f : Window → Window) : (modWin s w f).lanes = s.lanes := rfl
@[simp] theorem modWin_stall (s : State) (w : WinId) (f : Window → Window) : (modWin s w f).stall = s.stall := rfl
@[simp] theorem modWin_upOut (s : State) (w : WinId) (f : Window → Window) : (modWin s w f).upOut = s.upOut := rfl
@[simp] theorem modWin_port (s : State) (w : WinId) (f : Window → Window) : (modWin s w f).port = s.port := rfl
@[simp] theorem modWin_windows (s : State) (w : WinId) (f : Window → Window) : (modWin s w f).windows = s.windows.set w.val (f (getWin s w)) w.isLt := rfl
@[simp] theorem modWin_ctxs (s : State) (w : WinId) (f : Window → Window) : (modWin s w f).ctxs = s.ctxs := rfl
@[simp] theorem modWin_serial (s : State) (w : WinId) (f : Window → Window) : (modWin s w f).serial = s.serial := rfl
@[simp] theorem modWin_pool (s : State) (w : WinId) (f : Window → Window) : (modWin s w f).pool = s.pool := rfl
@[simp] theorem modWin_builder (s : State) (w : WinId) (f : Window → Window) : (modWin s w f).builder = s.builder := rfl
@[simp] theorem modWin_slots (s : State) (w : WinId) (f : Window → Window) : (modWin s w f).slots = s.slots := rfl
@[simp] theorem modWin_fence (s : State) (w : WinId) (f : Window → Window) : (modWin s w f).fence = s.fence := rfl
@[simp] theorem modWin_time (s : State) (w : WinId) (f : Window → Window) : (modWin s w f).time = s.time := rfl
@[simp] theorem modWin_report (s : State) (w : WinId) (f : Window → Window) : (modWin s w f).report = s.report := rfl
@[simp] theorem modWin_orders (s : State) (w : WinId) (f : Window → Window) : (modWin s w f).orders = s.orders := rfl
@[simp] theorem modWin_sweeper (s : State) (w : WinId) (f : Window → Window) : (modWin s w f).sweeper = s.sweeper := rfl
@[simp] theorem modWin_counters (s : State) (w : WinId) (f : Window → Window) : (modWin s w f).counters = s.counters := rfl
@[simp] theorem modWin_choices (s : State) (w : WinId) (f : Window → Window) : (modWin s w f).choices = s.choices := rfl
@[simp] theorem modWin_pending (s : State) (w : WinId) (f : Window → Window) : (modWin s w f).pending = s.pending := rfl
@[simp] theorem getLane_modWin (s : State) (w : WinId) (f : Window → Window) (k : LaneId) : getLane (modWin s w f) k = getLane s k := rfl
@[simp] theorem getSlot_modWin (s : State) (w : WinId) (f : Window → Window) (k : LaneId) : getSlot (modWin s w f) k = getSlot s k := rfl
@[simp] theorem getFence_modWin (s : State) (w : WinId) (f : Window → Window) (k : LaneId) : getFence (modWin s w f) k = getFence s k := rfl
@[simp] theorem getCtx_modWin (s : State) (w : WinId) (f : Window → Window) (k : CtxId) : getCtx (modWin s w f) k = getCtx s k := rfl

/-! ### modWinCounters -/

@[simp] theorem modWinCounters_engine (s : State) (w : WinId) (f : WinCounters → WinCounters) : (modWinCounters s w f).engine = s.engine := rfl
@[simp] theorem modWinCounters_lanes (s : State) (w : WinId) (f : WinCounters → WinCounters) : (modWinCounters s w f).lanes = s.lanes := rfl
@[simp] theorem modWinCounters_stall (s : State) (w : WinId) (f : WinCounters → WinCounters) : (modWinCounters s w f).stall = s.stall := rfl
@[simp] theorem modWinCounters_upOut (s : State) (w : WinId) (f : WinCounters → WinCounters) : (modWinCounters s w f).upOut = s.upOut := rfl
@[simp] theorem modWinCounters_port (s : State) (w : WinId) (f : WinCounters → WinCounters) : (modWinCounters s w f).port = s.port := rfl
@[simp] theorem modWinCounters_windows (s : State) (w : WinId) (f : WinCounters → WinCounters) : (modWinCounters s w f).windows = s.windows.set w.val { getWin s w with counters := f (getWin s w).counters } w.isLt := rfl
@[simp] theorem modWinCounters_ctxs (s : State) (w : WinId) (f : WinCounters → WinCounters) : (modWinCounters s w f).ctxs = s.ctxs := rfl
@[simp] theorem modWinCounters_serial (s : State) (w : WinId) (f : WinCounters → WinCounters) : (modWinCounters s w f).serial = s.serial := rfl
@[simp] theorem modWinCounters_pool (s : State) (w : WinId) (f : WinCounters → WinCounters) : (modWinCounters s w f).pool = s.pool := rfl
@[simp] theorem modWinCounters_builder (s : State) (w : WinId) (f : WinCounters → WinCounters) : (modWinCounters s w f).builder = s.builder := rfl
@[simp] theorem modWinCounters_slots (s : State) (w : WinId) (f : WinCounters → WinCounters) : (modWinCounters s w f).slots = s.slots := rfl
@[simp] theorem modWinCounters_fence (s : State) (w : WinId) (f : WinCounters → WinCounters) : (modWinCounters s w f).fence = s.fence := rfl
@[simp] theorem modWinCounters_time (s : State) (w : WinId) (f : WinCounters → WinCounters) : (modWinCounters s w f).time = s.time := rfl
@[simp] theorem modWinCounters_report (s : State) (w : WinId) (f : WinCounters → WinCounters) : (modWinCounters s w f).report = s.report := rfl
@[simp] theorem modWinCounters_orders (s : State) (w : WinId) (f : WinCounters → WinCounters) : (modWinCounters s w f).orders = s.orders := rfl
@[simp] theorem modWinCounters_sweeper (s : State) (w : WinId) (f : WinCounters → WinCounters) : (modWinCounters s w f).sweeper = s.sweeper := rfl
@[simp] theorem modWinCounters_counters (s : State) (w : WinId) (f : WinCounters → WinCounters) : (modWinCounters s w f).counters = s.counters := rfl
@[simp] theorem modWinCounters_choices (s : State) (w : WinId) (f : WinCounters → WinCounters) : (modWinCounters s w f).choices = s.choices := rfl
@[simp] theorem modWinCounters_pending (s : State) (w : WinId) (f : WinCounters → WinCounters) : (modWinCounters s w f).pending = s.pending := rfl
@[simp] theorem getLane_modWinCounters (s : State) (w : WinId) (f : WinCounters → WinCounters) (k : LaneId) : getLane (modWinCounters s w f) k = getLane s k := rfl
@[simp] theorem getSlot_modWinCounters (s : State) (w : WinId) (f : WinCounters → WinCounters) (k : LaneId) : getSlot (modWinCounters s w f) k = getSlot s k := rfl
@[simp] theorem getFence_modWinCounters (s : State) (w : WinId) (f : WinCounters → WinCounters) (k : LaneId) : getFence (modWinCounters s w f) k = getFence s k := rfl
@[simp] theorem getCtx_modWinCounters (s : State) (w : WinId) (f : WinCounters → WinCounters) (k : CtxId) : getCtx (modWinCounters s w f) k = getCtx s k := rfl

/-! ### modCounters -/

@[simp] theorem modCounters_engine (s : State) (f : Counters → Counters) : (modCounters s f).engine = s.engine := rfl
@[simp] theorem modCounters_lanes (s : State) (f : Counters → Counters) : (modCounters s f).lanes = s.lanes := rfl
@[simp] theorem modCounters_stall (s : State) (f : Counters → Counters) : (modCounters s f).stall = s.stall := rfl
@[simp] theorem modCounters_upOut (s : State) (f : Counters → Counters) : (modCounters s f).upOut = s.upOut := rfl
@[simp] theorem modCounters_port (s : State) (f : Counters → Counters) : (modCounters s f).port = s.port := rfl
@[simp] theorem modCounters_windows (s : State) (f : Counters → Counters) : (modCounters s f).windows = s.windows := rfl
@[simp] theorem modCounters_ctxs (s : State) (f : Counters → Counters) : (modCounters s f).ctxs = s.ctxs := rfl
@[simp] theorem modCounters_serial (s : State) (f : Counters → Counters) : (modCounters s f).serial = s.serial := rfl
@[simp] theorem modCounters_pool (s : State) (f : Counters → Counters) : (modCounters s f).pool = s.pool := rfl
@[simp] theorem modCounters_builder (s : State) (f : Counters → Counters) : (modCounters s f).builder = s.builder := rfl
@[simp] theorem modCounters_slots (s : State) (f : Counters → Counters) : (modCounters s f).slots = s.slots := rfl
@[simp] theorem modCounters_fence (s : State) (f : Counters → Counters) : (modCounters s f).fence = s.fence := rfl
@[simp] theorem modCounters_time (s : State) (f : Counters → Counters) : (modCounters s f).time = s.time := rfl
@[simp] theorem modCounters_report (s : State) (f : Counters → Counters) : (modCounters s f).report = s.report := rfl
@[simp] theorem modCounters_orders (s : State) (f : Counters → Counters) : (modCounters s f).orders = s.orders := rfl
@[simp] theorem modCounters_sweeper (s : State) (f : Counters → Counters) : (modCounters s f).sweeper = s.sweeper := rfl
@[simp] theorem modCounters_counters (s : State) (f : Counters → Counters) : (modCounters s f).counters = f s.counters := rfl
@[simp] theorem modCounters_choices (s : State) (f : Counters → Counters) : (modCounters s f).choices = s.choices := rfl
@[simp] theorem modCounters_pending (s : State) (f : Counters → Counters) : (modCounters s f).pending = s.pending := rfl
@[simp] theorem getLane_modCounters (s : State) (f : Counters → Counters) (k : LaneId) : getLane (modCounters s f) k = getLane s k := rfl
@[simp] theorem getSlot_modCounters (s : State) (f : Counters → Counters) (k : LaneId) : getSlot (modCounters s f) k = getSlot s k := rfl
@[simp] theorem getFence_modCounters (s : State) (f : Counters → Counters) (k : LaneId) : getFence (modCounters s f) k = getFence s k := rfl
@[simp] theorem getWin_modCounters (s : State) (f : Counters → Counters) (k : WinId) : getWin (modCounters s f) k = getWin s k := rfl
@[simp] theorem getCtx_modCounters (s : State) (f : Counters → Counters) (k : CtxId) : getCtx (modCounters s f) k = getCtx s k := rfl

/-! ### modReport -/

@[simp] theorem modReport_engine (s : State) (f : ReportUnit → ReportUnit) : (modReport s f).engine = s.engine := rfl
@[simp] theorem modReport_lanes (s : State) (f : ReportUnit → ReportUnit) : (modReport s f).lanes = s.lanes := rfl
@[simp] theorem modReport_stall (s : State) (f : ReportUnit → ReportUnit) : (modReport s f).stall = s.stall := rfl
@[simp] theorem modReport_upOut (s : State) (f : ReportUnit → ReportUnit) : (modReport s f).upOut = s.upOut := rfl
@[simp] theorem modReport_port (s : State) (f : ReportUnit → ReportUnit) : (modReport s f).port = s.port := rfl
@[simp] theorem modReport_windows (s : State) (f : ReportUnit → ReportUnit) : (modReport s f).windows = s.windows := rfl
@[simp] theorem modReport_ctxs (s : State) (f : ReportUnit → ReportUnit) : (modReport s f).ctxs = s.ctxs := rfl
@[simp] theorem modReport_serial (s : State) (f : ReportUnit → ReportUnit) : (modReport s f).serial = s.serial := rfl
@[simp] theorem modReport_pool (s : State) (f : ReportUnit → ReportUnit) : (modReport s f).pool = s.pool := rfl
@[simp] theorem modReport_builder (s : State) (f : ReportUnit → ReportUnit) : (modReport s f).builder = s.builder := rfl
@[simp] theorem modReport_slots (s : State) (f : ReportUnit → ReportUnit) : (modReport s f).slots = s.slots := rfl
@[simp] theorem modReport_fence (s : State) (f : ReportUnit → ReportUnit) : (modReport s f).fence = s.fence := rfl
@[simp] theorem modReport_time (s : State) (f : ReportUnit → ReportUnit) : (modReport s f).time = s.time := rfl
@[simp] theorem modReport_report (s : State) (f : ReportUnit → ReportUnit) : (modReport s f).report = f s.report := rfl
@[simp] theorem modReport_orders (s : State) (f : ReportUnit → ReportUnit) : (modReport s f).orders = s.orders := rfl
@[simp] theorem modReport_sweeper (s : State) (f : ReportUnit → ReportUnit) : (modReport s f).sweeper = s.sweeper := rfl
@[simp] theorem modReport_counters (s : State) (f : ReportUnit → ReportUnit) : (modReport s f).counters = s.counters := rfl
@[simp] theorem modReport_choices (s : State) (f : ReportUnit → ReportUnit) : (modReport s f).choices = s.choices := rfl
@[simp] theorem modReport_pending (s : State) (f : ReportUnit → ReportUnit) : (modReport s f).pending = s.pending := rfl
@[simp] theorem getLane_modReport (s : State) (f : ReportUnit → ReportUnit) (k : LaneId) : getLane (modReport s f) k = getLane s k := rfl
@[simp] theorem getSlot_modReport (s : State) (f : ReportUnit → ReportUnit) (k : LaneId) : getSlot (modReport s f) k = getSlot s k := rfl
@[simp] theorem getFence_modReport (s : State) (f : ReportUnit → ReportUnit) (k : LaneId) : getFence (modReport s f) k = getFence s k := rfl
@[simp] theorem getWin_modReport (s : State) (f : ReportUnit → ReportUnit) (k : WinId) : getWin (modReport s f) k = getWin s k := rfl
@[simp] theorem getCtx_modReport (s : State) (f : ReportUnit → ReportUnit) (k : CtxId) : getCtx (modReport s f) k = getCtx s k := rfl

/-! ### modOrders -/

@[simp] theorem modOrders_engine (s : State) (f : OrderUnit → OrderUnit) : (modOrders s f).engine = s.engine := rfl
@[simp] theorem modOrders_lanes (s : State) (f : OrderUnit → OrderUnit) : (modOrders s f).lanes = s.lanes := rfl
@[simp] theorem modOrders_stall (s : State) (f : OrderUnit → OrderUnit) : (modOrders s f).stall = s.stall := rfl
@[simp] theorem modOrders_upOut (s : State) (f : OrderUnit → OrderUnit) : (modOrders s f).upOut = s.upOut := rfl
@[simp] theorem modOrders_port (s : State) (f : OrderUnit → OrderUnit) : (modOrders s f).port = s.port := rfl
@[simp] theorem modOrders_windows (s : State) (f : OrderUnit → OrderUnit) : (modOrders s f).windows = s.windows := rfl
@[simp] theorem modOrders_ctxs (s : State) (f : OrderUnit → OrderUnit) : (modOrders s f).ctxs = s.ctxs := rfl
@[simp] theorem modOrders_serial (s : State) (f : OrderUnit → OrderUnit) : (modOrders s f).serial = s.serial := rfl
@[simp] theorem modOrders_pool (s : State) (f : OrderUnit → OrderUnit) : (modOrders s f).pool = s.pool := rfl
@[simp] theorem modOrders_builder (s : State) (f : OrderUnit → OrderUnit) : (modOrders s f).builder = s.builder := rfl
@[simp] theorem modOrders_slots (s : State) (f : OrderUnit → OrderUnit) : (modOrders s f).slots = s.slots := rfl
@[simp] theorem modOrders_fence (s : State) (f : OrderUnit → OrderUnit) : (modOrders s f).fence = s.fence := rfl
@[simp] theorem modOrders_time (s : State) (f : OrderUnit → OrderUnit) : (modOrders s f).time = s.time := rfl
@[simp] theorem modOrders_report (s : State) (f : OrderUnit → OrderUnit) : (modOrders s f).report = s.report := rfl
@[simp] theorem modOrders_orders (s : State) (f : OrderUnit → OrderUnit) : (modOrders s f).orders = f s.orders := rfl
@[simp] theorem modOrders_sweeper (s : State) (f : OrderUnit → OrderUnit) : (modOrders s f).sweeper = s.sweeper := rfl
@[simp] theorem modOrders_counters (s : State) (f : OrderUnit → OrderUnit) : (modOrders s f).counters = s.counters := rfl
@[simp] theorem modOrders_choices (s : State) (f : OrderUnit → OrderUnit) : (modOrders s f).choices = s.choices := rfl
@[simp] theorem modOrders_pending (s : State) (f : OrderUnit → OrderUnit) : (modOrders s f).pending = s.pending := rfl
@[simp] theorem getLane_modOrders (s : State) (f : OrderUnit → OrderUnit) (k : LaneId) : getLane (modOrders s f) k = getLane s k := rfl
@[simp] theorem getSlot_modOrders (s : State) (f : OrderUnit → OrderUnit) (k : LaneId) : getSlot (modOrders s f) k = getSlot s k := rfl
@[simp] theorem getFence_modOrders (s : State) (f : OrderUnit → OrderUnit) (k : LaneId) : getFence (modOrders s f) k = getFence s k := rfl
@[simp] theorem getWin_modOrders (s : State) (f : OrderUnit → OrderUnit) (k : WinId) : getWin (modOrders s f) k = getWin s k := rfl
@[simp] theorem getCtx_modOrders (s : State) (f : OrderUnit → OrderUnit) (k : CtxId) : getCtx (modOrders s f) k = getCtx s k := rfl

/-! ### modSweeper -/

@[simp] theorem modSweeper_engine (s : State) (f : Sweeper → Sweeper) : (modSweeper s f).engine = s.engine := rfl
@[simp] theorem modSweeper_lanes (s : State) (f : Sweeper → Sweeper) : (modSweeper s f).lanes = s.lanes := rfl
@[simp] theorem modSweeper_stall (s : State) (f : Sweeper → Sweeper) : (modSweeper s f).stall = s.stall := rfl
@[simp] theorem modSweeper_upOut (s : State) (f : Sweeper → Sweeper) : (modSweeper s f).upOut = s.upOut := rfl
@[simp] theorem modSweeper_port (s : State) (f : Sweeper → Sweeper) : (modSweeper s f).port = s.port := rfl
@[simp] theorem modSweeper_windows (s : State) (f : Sweeper → Sweeper) : (modSweeper s f).windows = s.windows := rfl
@[simp] theorem modSweeper_ctxs (s : State) (f : Sweeper → Sweeper) : (modSweeper s f).ctxs = s.ctxs := rfl
@[simp] theorem modSweeper_serial (s : State) (f : Sweeper → Sweeper) : (modSweeper s f).serial = s.serial := rfl
@[simp] theorem modSweeper_pool (s : State) (f : Sweeper → Sweeper) : (modSweeper s f).pool = s.pool := rfl
@[simp] theorem modSweeper_builder (s : State) (f : Sweeper → Sweeper) : (modSweeper s f).builder = s.builder := rfl
@[simp] theorem modSweeper_slots (s : State) (f : Sweeper → Sweeper) : (modSweeper s f).slots = s.slots := rfl
@[simp] theorem modSweeper_fence (s : State) (f : Sweeper → Sweeper) : (modSweeper s f).fence = s.fence := rfl
@[simp] theorem modSweeper_time (s : State) (f : Sweeper → Sweeper) : (modSweeper s f).time = s.time := rfl
@[simp] theorem modSweeper_report (s : State) (f : Sweeper → Sweeper) : (modSweeper s f).report = s.report := rfl
@[simp] theorem modSweeper_orders (s : State) (f : Sweeper → Sweeper) : (modSweeper s f).orders = s.orders := rfl
@[simp] theorem modSweeper_sweeper (s : State) (f : Sweeper → Sweeper) : (modSweeper s f).sweeper = f s.sweeper := rfl
@[simp] theorem modSweeper_counters (s : State) (f : Sweeper → Sweeper) : (modSweeper s f).counters = s.counters := rfl
@[simp] theorem modSweeper_choices (s : State) (f : Sweeper → Sweeper) : (modSweeper s f).choices = s.choices := rfl
@[simp] theorem modSweeper_pending (s : State) (f : Sweeper → Sweeper) : (modSweeper s f).pending = s.pending := rfl
@[simp] theorem getLane_modSweeper (s : State) (f : Sweeper → Sweeper) (k : LaneId) : getLane (modSweeper s f) k = getLane s k := rfl
@[simp] theorem getSlot_modSweeper (s : State) (f : Sweeper → Sweeper) (k : LaneId) : getSlot (modSweeper s f) k = getSlot s k := rfl
@[simp] theorem getFence_modSweeper (s : State) (f : Sweeper → Sweeper) (k : LaneId) : getFence (modSweeper s f) k = getFence s k := rfl
@[simp] theorem getWin_modSweeper (s : State) (f : Sweeper → Sweeper) (k : WinId) : getWin (modSweeper s f) k = getWin s k := rfl
@[simp] theorem getCtx_modSweeper (s : State) (f : Sweeper → Sweeper) (k : CtxId) : getCtx (modSweeper s f) k = getCtx s k := rfl

/-! ### modTime -/

@[simp] theorem modTime_engine (s : State) (f : TimeBase → TimeBase) : (modTime s f).engine = s.engine := rfl
@[simp] theorem modTime_lanes (s : State) (f : TimeBase → TimeBase) : (modTime s f).lanes = s.lanes := rfl
@[simp] theorem modTime_stall (s : State) (f : TimeBase → TimeBase) : (modTime s f).stall = s.stall := rfl
@[simp] theorem modTime_upOut (s : State) (f : TimeBase → TimeBase) : (modTime s f).upOut = s.upOut := rfl
@[simp] theorem modTime_port (s : State) (f : TimeBase → TimeBase) : (modTime s f).port = s.port := rfl
@[simp] theorem modTime_windows (s : State) (f : TimeBase → TimeBase) : (modTime s f).windows = s.windows := rfl
@[simp] theorem modTime_ctxs (s : State) (f : TimeBase → TimeBase) : (modTime s f).ctxs = s.ctxs := rfl
@[simp] theorem modTime_serial (s : State) (f : TimeBase → TimeBase) : (modTime s f).serial = s.serial := rfl
@[simp] theorem modTime_pool (s : State) (f : TimeBase → TimeBase) : (modTime s f).pool = s.pool := rfl
@[simp] theorem modTime_builder (s : State) (f : TimeBase → TimeBase) : (modTime s f).builder = s.builder := rfl
@[simp] theorem modTime_slots (s : State) (f : TimeBase → TimeBase) : (modTime s f).slots = s.slots := rfl
@[simp] theorem modTime_fence (s : State) (f : TimeBase → TimeBase) : (modTime s f).fence = s.fence := rfl
@[simp] theorem modTime_time (s : State) (f : TimeBase → TimeBase) : (modTime s f).time = f s.time := rfl
@[simp] theorem modTime_report (s : State) (f : TimeBase → TimeBase) : (modTime s f).report = s.report := rfl
@[simp] theorem modTime_orders (s : State) (f : TimeBase → TimeBase) : (modTime s f).orders = s.orders := rfl
@[simp] theorem modTime_sweeper (s : State) (f : TimeBase → TimeBase) : (modTime s f).sweeper = s.sweeper := rfl
@[simp] theorem modTime_counters (s : State) (f : TimeBase → TimeBase) : (modTime s f).counters = s.counters := rfl
@[simp] theorem modTime_choices (s : State) (f : TimeBase → TimeBase) : (modTime s f).choices = s.choices := rfl
@[simp] theorem modTime_pending (s : State) (f : TimeBase → TimeBase) : (modTime s f).pending = s.pending := rfl
@[simp] theorem getLane_modTime (s : State) (f : TimeBase → TimeBase) (k : LaneId) : getLane (modTime s f) k = getLane s k := rfl
@[simp] theorem getSlot_modTime (s : State) (f : TimeBase → TimeBase) (k : LaneId) : getSlot (modTime s f) k = getSlot s k := rfl
@[simp] theorem getFence_modTime (s : State) (f : TimeBase → TimeBase) (k : LaneId) : getFence (modTime s f) k = getFence s k := rfl
@[simp] theorem getWin_modTime (s : State) (f : TimeBase → TimeBase) (k : WinId) : getWin (modTime s f) k = getWin s k := rfl
@[simp] theorem getCtx_modTime (s : State) (f : TimeBase → TimeBase) (k : CtxId) : getCtx (modTime s f) k = getCtx s k := rfl

/-! ### modPort -/

@[simp] theorem modPort_engine (s : State) (f : Port → Port) : (modPort s f).engine = s.engine := rfl
@[simp] theorem modPort_lanes (s : State) (f : Port → Port) : (modPort s f).lanes = s.lanes := rfl
@[simp] theorem modPort_stall (s : State) (f : Port → Port) : (modPort s f).stall = s.stall := rfl
@[simp] theorem modPort_upOut (s : State) (f : Port → Port) : (modPort s f).upOut = s.upOut := rfl
@[simp] theorem modPort_port (s : State) (f : Port → Port) : (modPort s f).port = f s.port := rfl
@[simp] theorem modPort_windows (s : State) (f : Port → Port) : (modPort s f).windows = s.windows := rfl
@[simp] theorem modPort_ctxs (s : State) (f : Port → Port) : (modPort s f).ctxs = s.ctxs := rfl
@[simp] theorem modPort_serial (s : State) (f : Port → Port) : (modPort s f).serial = s.serial := rfl
@[simp] theorem modPort_pool (s : State) (f : Port → Port) : (modPort s f).pool = s.pool := rfl
@[simp] theorem modPort_builder (s : State) (f : Port → Port) : (modPort s f).builder = s.builder := rfl
@[simp] theorem modPort_slots (s : State) (f : Port → Port) : (modPort s f).slots = s.slots := rfl
@[simp] theorem modPort_fence (s : State) (f : Port → Port) : (modPort s f).fence = s.fence := rfl
@[simp] theorem modPort_time (s : State) (f : Port → Port) : (modPort s f).time = s.time := rfl
@[simp] theorem modPort_report (s : State) (f : Port → Port) : (modPort s f).report = s.report := rfl
@[simp] theorem modPort_orders (s : State) (f : Port → Port) : (modPort s f).orders = s.orders := rfl
@[simp] theorem modPort_sweeper (s : State) (f : Port → Port) : (modPort s f).sweeper = s.sweeper := rfl
@[simp] theorem modPort_counters (s : State) (f : Port → Port) : (modPort s f).counters = s.counters := rfl
@[simp] theorem modPort_choices (s : State) (f : Port → Port) : (modPort s f).choices = s.choices := rfl
@[simp] theorem modPort_pending (s : State) (f : Port → Port) : (modPort s f).pending = s.pending := rfl
@[simp] theorem getLane_modPort (s : State) (f : Port → Port) (k : LaneId) : getLane (modPort s f) k = getLane s k := rfl
@[simp] theorem getSlot_modPort (s : State) (f : Port → Port) (k : LaneId) : getSlot (modPort s f) k = getSlot s k := rfl
@[simp] theorem getFence_modPort (s : State) (f : Port → Port) (k : LaneId) : getFence (modPort s f) k = getFence s k := rfl
@[simp] theorem getWin_modPort (s : State) (f : Port → Port) (k : WinId) : getWin (modPort s f) k = getWin s k := rfl
@[simp] theorem getCtx_modPort (s : State) (f : Port → Port) (k : CtxId) : getCtx (modPort s f) k = getCtx s k := rfl

/-! ### Tables: an entry read after an entry is written -/

theorem getLane_setLane (s : State) (i k : LaneId) (x : Lane) :
    getLane (setLane s i x) k = if i = k then x else getLane s k := by
  simp [getLane, setLane, Vector.getElem_set, Fin.ext_iff]

@[simp] theorem getLane_setLane_self (s : State) (i : LaneId) (x : Lane) : getLane (setLane s i x) i = x := by
  simp [getLane_setLane]

theorem getLane_setLane_of_ne (s : State) (i k : LaneId) (x : Lane) (h : i ≠ k) : getLane (setLane s i x) k = getLane s k := by
  simp [getLane_setLane, h]

theorem getSlot_setSlot (s : State) (i k : LaneId) (x : Slot) :
    getSlot (setSlot s i x) k = if i = k then x else getSlot s k := by
  simp [getSlot, setSlot, Vector.getElem_set, Fin.ext_iff]

@[simp] theorem getSlot_setSlot_self (s : State) (i : LaneId) (x : Slot) : getSlot (setSlot s i x) i = x := by
  simp [getSlot_setSlot]

theorem getSlot_setSlot_of_ne (s : State) (i k : LaneId) (x : Slot) (h : i ≠ k) : getSlot (setSlot s i x) k = getSlot s k := by
  simp [getSlot_setSlot, h]

theorem getFence_setFence (s : State) (i k : LaneId) (x : Option FenceRec) :
    getFence (setFence s i x) k = if i = k then x else getFence s k := by
  simp [getFence, setFence, Vector.getElem_set, Fin.ext_iff]

@[simp] theorem getFence_setFence_self (s : State) (i : LaneId) (x : Option FenceRec) : getFence (setFence s i x) i = x := by
  simp [getFence_setFence]

theorem getFence_setFence_of_ne (s : State) (i k : LaneId) (x : Option FenceRec) (h : i ≠ k) : getFence (setFence s i x) k = getFence s k := by
  simp [getFence_setFence, h]

theorem getWin_setWin (s : State) (i k : WinId) (x : Window) :
    getWin (setWin s i x) k = if i = k then x else getWin s k := by
  simp [getWin, setWin, Vector.getElem_set, Fin.ext_iff]

@[simp] theorem getWin_setWin_self (s : State) (i : WinId) (x : Window) : getWin (setWin s i x) i = x := by
  simp [getWin_setWin]

theorem getWin_setWin_of_ne (s : State) (i k : WinId) (x : Window) (h : i ≠ k) : getWin (setWin s i x) k = getWin s k := by
  simp [getWin_setWin, h]

theorem getCtx_setCtx (s : State) (i k : CtxId) (x : Context) :
    getCtx (setCtx s i x) k = if i = k then x else getCtx s k := by
  simp [getCtx, setCtx, Vector.getElem_set, Fin.ext_iff]

@[simp] theorem getCtx_setCtx_self (s : State) (i : CtxId) (x : Context) : getCtx (setCtx s i x) i = x := by
  simp [getCtx_setCtx]

theorem getCtx_setCtx_of_ne (s : State) (i k : CtxId) (x : Context) (h : i ≠ k) : getCtx (setCtx s i x) k = getCtx s k := by
  simp [getCtx_setCtx, h]

@[simp] theorem getWin_modWin_self (s : State) (i : WinId) (f : Window → Window) :
    getWin (modWin s i f) i = f (getWin s i) := by
  simp [modWin]

theorem getWin_modWin_of_ne (s : State) (i k : WinId) (f : Window → Window) (h : i ≠ k) :
    getWin (modWin s i f) k = getWin s k := by
  simp [modWin, getWin_setWin, h]

@[simp] theorem getCtx_modCtx_self (s : State) (i : CtxId) (f : Context → Context) :
    getCtx (modCtx s i f) i = f (getCtx s i) := by
  simp [modCtx]

theorem getCtx_modCtx_of_ne (s : State) (i k : CtxId) (f : Context → Context) (h : i ≠ k) :
    getCtx (modCtx s i f) k = getCtx s k := by
  simp [modCtx, getCtx_setCtx, h]

/-- A table lookup depends on its table alone. -/
theorem getLane_congr {s t : State} (h : t.lanes = s.lanes) (l : LaneId) : getLane t l = getLane s l := by
  simp [getLane, h]

theorem getSlot_congr {s t : State} (h : t.slots = s.slots) (l : LaneId) : getSlot t l = getSlot s l := by
  simp [getSlot, h]

theorem getFence_congr {s t : State} (h : t.fence = s.fence) (l : LaneId) : getFence t l = getFence s l := by
  simp [getFence, h]

theorem getWin_congr {s t : State} (h : t.windows = s.windows) (w : WinId) : getWin t w = getWin s w := by
  simp [getWin, h]

theorem getCtx_congr {s t : State} (h : t.ctxs = s.ctxs) (c : CtxId) : getCtx t c = getCtx s c := by
  simp [getCtx, h]

end Sys2Proof.Machine
end

