-- ==== Sys2Proof/Laws/Ops.lean ====
section
/-! SUPPORT. For each shared operation, the fields of the state it leaves unchanged, as one lemma for `simp`; and what
the operations over the records and the binding map answer. -/

namespace Sys2Proof.Machine

/-- A part of the state that every step of a fold leaves unchanged is unchanged by the fold. -/
theorem foldl_unchanged {α β : Type} (g : State → β) (f : State → α → State) (h : ∀ s x, g (f s x) = g s)
    (xs : List α) (s : State) : g (xs.foldl f s) = g s := by
  induction xs generalizing s with
  | nil => rfl
  | cons x rest ih => rw [List.foldl_cons, ih, h]

/-- A request joins class 1 (R176). -/
@[simp] theorem enqueue1_frame (s : State) (r : MemReq) :
    (enqueue1 s r).engine = s.engine ∧ (enqueue1 s r).lanes = s.lanes ∧ (enqueue1 s r).stall = s.stall ∧
    (enqueue1 s r).upOut = s.upOut ∧ (enqueue1 s r).windows = s.windows ∧ (enqueue1 s r).ctxs = s.ctxs ∧
    (enqueue1 s r).serial = s.serial ∧ (enqueue1 s r).pool = s.pool ∧ (enqueue1 s r).builder = s.builder ∧
    (enqueue1 s r).slots = s.slots ∧ (enqueue1 s r).fence = s.fence ∧ (enqueue1 s r).time = s.time ∧
    (enqueue1 s r).report = s.report ∧ (enqueue1 s r).orders = s.orders ∧ (enqueue1 s r).sweeper = s.sweeper ∧
    (enqueue1 s r).counters = s.counters ∧ (enqueue1 s r).choices = s.choices ∧
    (enqueue1 s r).pending = s.pending := by
  simp [enqueue1]

/-- A request joins class 2 (R176). -/
@[simp] theorem enqueue2_frame (s : State) (r : MemReq) :
    (enqueue2 s r).engine = s.engine ∧ (enqueue2 s r).lanes = s.lanes ∧ (enqueue2 s r).stall = s.stall ∧
    (enqueue2 s r).upOut = s.upOut ∧ (enqueue2 s r).windows = s.windows ∧ (enqueue2 s r).ctxs = s.ctxs ∧
    (enqueue2 s r).serial = s.serial ∧ (enqueue2 s r).pool = s.pool ∧ (enqueue2 s r).builder = s.builder ∧
    (enqueue2 s r).slots = s.slots ∧ (enqueue2 s r).fence = s.fence ∧ (enqueue2 s r).time = s.time ∧
    (enqueue2 s r).report = s.report ∧ (enqueue2 s r).orders = s.orders ∧ (enqueue2 s r).sweeper = s.sweeper ∧
    (enqueue2 s r).counters = s.counters ∧ (enqueue2 s r).choices = s.choices ∧
    (enqueue2 s r).pending = s.pending := by
  simp [enqueue2]

/-- Requests join class 3 (R176). -/
@[simp] theorem enqueue3_frame (s : State) (rs : List MemReq) :
    (enqueue3 s rs).engine = s.engine ∧ (enqueue3 s rs).lanes = s.lanes ∧ (enqueue3 s rs).stall = s.stall ∧
    (enqueue3 s rs).upOut = s.upOut ∧ (enqueue3 s rs).windows = s.windows ∧ (enqueue3 s rs).ctxs = s.ctxs ∧
    (enqueue3 s rs).serial = s.serial ∧ (enqueue3 s rs).pool = s.pool ∧ (enqueue3 s rs).builder = s.builder ∧
    (enqueue3 s rs).slots = s.slots ∧ (enqueue3 s rs).fence = s.fence ∧ (enqueue3 s rs).time = s.time ∧
    (enqueue3 s rs).report = s.report ∧ (enqueue3 s rs).orders = s.orders ∧ (enqueue3 s rs).sweeper = s.sweeper ∧
    (enqueue3 s rs).counters = s.counters ∧ (enqueue3 s rs).choices = s.choices ∧
    (enqueue3 s rs).pending = s.pending := by
  simp [enqueue3]

/-- Requests join class 4 (R176). -/
@[simp] theorem enqueue4_frame (s : State) (rs : List MemReq) :
    (enqueue4 s rs).engine = s.engine ∧ (enqueue4 s rs).lanes = s.lanes ∧ (enqueue4 s rs).stall = s.stall ∧
    (enqueue4 s rs).upOut = s.upOut ∧ (enqueue4 s rs).windows = s.windows ∧ (enqueue4 s rs).ctxs = s.ctxs ∧
    (enqueue4 s rs).serial = s.serial ∧ (enqueue4 s rs).pool = s.pool ∧ (enqueue4 s rs).builder = s.builder ∧
    (enqueue4 s rs).slots = s.slots ∧ (enqueue4 s rs).fence = s.fence ∧ (enqueue4 s rs).time = s.time ∧
    (enqueue4 s rs).report = s.report ∧ (enqueue4 s rs).orders = s.orders ∧ (enqueue4 s rs).sweeper = s.sweeper ∧
    (enqueue4 s rs).counters = s.counters ∧ (enqueue4 s rs).choices = s.choices ∧
    (enqueue4 s rs).pending = s.pending := by
  simp [enqueue4]

/-- An issued request is answered (R177). -/
@[simp] theorem retireIssued_frame (s : State) (id : Nat) :
    (retireIssued s id).engine = s.engine ∧ (retireIssued s id).lanes = s.lanes ∧
    (retireIssued s id).stall = s.stall ∧ (retireIssued s id).upOut = s.upOut ∧
    (retireIssued s id).windows = s.windows ∧ (retireIssued s id).ctxs = s.ctxs ∧
    (retireIssued s id).serial = s.serial ∧ (retireIssued s id).pool = s.pool ∧
    (retireIssued s id).builder = s.builder ∧ (retireIssued s id).slots = s.slots ∧
    (retireIssued s id).fence = s.fence ∧ (retireIssued s id).time = s.time ∧
    (retireIssued s id).report = s.report ∧ (retireIssued s id).orders = s.orders ∧
    (retireIssued s id).sweeper = s.sweeper ∧ (retireIssued s id).counters = s.counters ∧
    (retireIssued s id).choices = s.choices ∧ (retireIssued s id).pending = s.pending := by
  simp [retireIssued]

/-- Reconcile reads are withdrawn or given up (R108). -/
@[simp] theorem dropReconcileReads_frame (s : State) :
    (dropReconcileReads s).engine = s.engine ∧ (dropReconcileReads s).lanes = s.lanes ∧
    (dropReconcileReads s).stall = s.stall ∧ (dropReconcileReads s).upOut = s.upOut ∧
    (dropReconcileReads s).windows = s.windows ∧ (dropReconcileReads s).ctxs = s.ctxs ∧
    (dropReconcileReads s).serial = s.serial ∧ (dropReconcileReads s).pool = s.pool ∧
    (dropReconcileReads s).builder = s.builder ∧ (dropReconcileReads s).slots = s.slots ∧
    (dropReconcileReads s).fence = s.fence ∧ (dropReconcileReads s).time = s.time ∧
    (dropReconcileReads s).report = s.report ∧ (dropReconcileReads s).orders = s.orders ∧
    (dropReconcileReads s).sweeper = s.sweeper ∧ (dropReconcileReads s).counters = s.counters ∧
    (dropReconcileReads s).choices = s.choices ∧ (dropReconcileReads s).pending = s.pending := by
  simp [dropReconcileReads]

/-- Recheck reads are withdrawn or given up (R157). -/
@[simp] theorem dropRecheckReads_frame (s : State) :
    (dropRecheckReads s).engine = s.engine ∧ (dropRecheckReads s).lanes = s.lanes ∧
    (dropRecheckReads s).stall = s.stall ∧ (dropRecheckReads s).upOut = s.upOut ∧
    (dropRecheckReads s).windows = s.windows ∧ (dropRecheckReads s).ctxs = s.ctxs ∧
    (dropRecheckReads s).serial = s.serial ∧ (dropRecheckReads s).pool = s.pool ∧
    (dropRecheckReads s).builder = s.builder ∧ (dropRecheckReads s).slots = s.slots ∧
    (dropRecheckReads s).fence = s.fence ∧ (dropRecheckReads s).time = s.time ∧
    (dropRecheckReads s).report = s.report ∧ (dropRecheckReads s).orders = s.orders ∧
    (dropRecheckReads s).sweeper = s.sweeper ∧ (dropRecheckReads s).counters = s.counters ∧
    (dropRecheckReads s).choices = s.choices ∧ (dropRecheckReads s).pending = s.pending := by
  simp [dropRecheckReads]

/-- A request is forwarded (R123). -/
@[simp] theorem forward_frame (s : State) (r : Request) (x : Option (CtxId × Word32)) :
    (forward s r x).engine = s.engine ∧ (forward s r x).lanes = s.lanes ∧ (forward s r x).stall = s.stall ∧
    (forward s r x).upOut = s.upOut ∧ (forward s r x).windows = s.windows ∧ (forward s r x).ctxs = s.ctxs ∧
    (forward s r x).serial = s.serial ∧ (forward s r x).pool = s.pool ∧ (forward s r x).builder = s.builder ∧
    (forward s r x).slots = s.slots ∧ (forward s r x).fence = s.fence ∧ (forward s r x).time = s.time ∧
    (forward s r x).report = s.report ∧ (forward s r x).orders = s.orders ∧ (forward s r x).sweeper = s.sweeper ∧
    (forward s r x).counters = s.counters ∧ (forward s r x).choices = s.choices ∧
    (forward s r x).pending = s.pending := by
  simp [forward]

/-- A response is given (R114). -/
@[simp] theorem respond_frame (s : State) (r : Response) :
    (respond s r).engine = s.engine ∧ (respond s r).lanes = s.lanes ∧ (respond s r).stall = s.stall ∧
    (respond s r).port = s.port ∧ (respond s r).windows = s.windows ∧ (respond s r).ctxs = s.ctxs ∧
    (respond s r).serial = s.serial ∧ (respond s r).pool = s.pool ∧ (respond s r).builder = s.builder ∧
    (respond s r).slots = s.slots ∧ (respond s r).fence = s.fence ∧ (respond s r).time = s.time ∧
    (respond s r).report = s.report ∧ (respond s r).orders = s.orders ∧ (respond s r).sweeper = s.sweeper ∧
    (respond s r).counters = s.counters ∧ (respond s r).choices = s.choices ∧ (respond s r).pending = s.pending := by
  simp [respond]

/-- The part answers ERROR (R124). -/
@[simp] theorem answerError_frame (s : State) (r : Request) :
    (answerError s r).engine = s.engine ∧ (answerError s r).lanes = s.lanes ∧ (answerError s r).stall = s.stall ∧
    (answerError s r).port = s.port ∧ (answerError s r).windows = s.windows ∧ (answerError s r).ctxs = s.ctxs ∧
    (answerError s r).serial = s.serial ∧ (answerError s r).pool = s.pool ∧ (answerError s r).builder = s.builder ∧
    (answerError s r).slots = s.slots ∧ (answerError s r).fence = s.fence ∧ (answerError s r).time = s.time ∧
    (answerError s r).report = s.report ∧ (answerError s r).orders = s.orders ∧
    (answerError s r).sweeper = s.sweeper ∧ (answerError s r).counters = s.counters ∧
    (answerError s r).choices = s.choices ∧ (answerError s r).pending = s.pending := by
  simp [answerError]

/-- A head leaves (R119). -/
@[simp] theorem clearHead_frame (s : State) (l : LaneId) :
    (clearHead s l).engine = s.engine ∧ (clearHead s l).stall = s.stall ∧ (clearHead s l).upOut = s.upOut ∧
    (clearHead s l).port = s.port ∧ (clearHead s l).windows = s.windows ∧ (clearHead s l).ctxs = s.ctxs ∧
    (clearHead s l).serial = s.serial ∧ (clearHead s l).pool = s.pool ∧ (clearHead s l).builder = s.builder ∧
    (clearHead s l).slots = s.slots ∧ (clearHead s l).fence = s.fence ∧ (clearHead s l).time = s.time ∧
    (clearHead s l).report = s.report ∧ (clearHead s l).orders = s.orders ∧ (clearHead s l).sweeper = s.sweeper ∧
    (clearHead s l).counters = s.counters ∧ (clearHead s l).choices = s.choices ∧
    (clearHead s l).pending = s.pending := by
  simp [clearHead]

/-- The part answers a head ERROR (R124). -/
@[simp] theorem partAnswer_frame (s : State) (l : LaneId) (r : Request) :
    (partAnswer s l r).engine = s.engine ∧ (partAnswer s l r).stall = s.stall ∧ (partAnswer s l r).port = s.port ∧
    (partAnswer s l r).windows = s.windows ∧ (partAnswer s l r).ctxs = s.ctxs ∧
    (partAnswer s l r).serial = s.serial ∧ (partAnswer s l r).pool = s.pool ∧
    (partAnswer s l r).builder = s.builder ∧ (partAnswer s l r).slots = s.slots ∧
    (partAnswer s l r).fence = s.fence ∧ (partAnswer s l r).time = s.time ∧ (partAnswer s l r).report = s.report ∧
    (partAnswer s l r).orders = s.orders ∧ (partAnswer s l r).sweeper = s.sweeper ∧
    (partAnswer s l r).choices = s.choices ∧ (partAnswer s l r).pending = s.pending := by
  simp [partAnswer]

/-- A head is forwarded (R119). -/
@[simp] theorem forwardHead_frame (s : State) (l : LaneId) (r : Request) (x : Option (CtxId × Word32)) :
    (forwardHead s l r x).engine = s.engine ∧ (forwardHead s l r x).stall = s.stall ∧
    (forwardHead s l r x).upOut = s.upOut ∧ (forwardHead s l r x).windows = s.windows ∧
    (forwardHead s l r x).ctxs = s.ctxs ∧ (forwardHead s l r x).serial = s.serial ∧
    (forwardHead s l r x).pool = s.pool ∧ (forwardHead s l r x).builder = s.builder ∧
    (forwardHead s l r x).slots = s.slots ∧ (forwardHead s l r x).fence = s.fence ∧
    (forwardHead s l r x).time = s.time ∧ (forwardHead s l r x).report = s.report ∧
    (forwardHead s l r x).orders = s.orders ∧ (forwardHead s l r x).sweeper = s.sweeper ∧
    (forwardHead s l r x).counters = s.counters ∧ (forwardHead s l r x).choices = s.choices ∧
    (forwardHead s l r x).pending = s.pending := by
  simp [forwardHead]

/-- A head is held (R115). -/
@[simp] theorem holdHead_frame (s : State) (l : LaneId) (r : Request) (h : HoldReason) :
    (holdHead s l r h).engine = s.engine ∧ (holdHead s l r h).stall = s.stall ∧
    (holdHead s l r h).upOut = s.upOut ∧ (holdHead s l r h).port = s.port ∧
    (holdHead s l r h).windows = s.windows ∧ (holdHead s l r h).ctxs = s.ctxs ∧
    (holdHead s l r h).serial = s.serial ∧ (holdHead s l r h).pool = s.pool ∧
    (holdHead s l r h).builder = s.builder ∧ (holdHead s l r h).slots = s.slots ∧
    (holdHead s l r h).fence = s.fence ∧ (holdHead s l r h).time = s.time ∧ (holdHead s l r h).report = s.report ∧
    (holdHead s l r h).orders = s.orders ∧ (holdHead s l r h).sweeper = s.sweeper ∧
    (holdHead s l r h).counters = s.counters ∧ (holdHead s l r h).choices = s.choices ∧
    (holdHead s l r h).pending = s.pending := by
  simp [holdHead]

/-- Held heads are released (R121). -/
@[simp] theorem releaseHeads_frame (s : State) (q : Request → HoldReason → Bool) :
    (releaseHeads s q).engine = s.engine ∧ (releaseHeads s q).stall = s.stall ∧
    (releaseHeads s q).upOut = s.upOut ∧ (releaseHeads s q).port = s.port ∧
    (releaseHeads s q).windows = s.windows ∧ (releaseHeads s q).ctxs = s.ctxs ∧
    (releaseHeads s q).serial = s.serial ∧ (releaseHeads s q).pool = s.pool ∧
    (releaseHeads s q).builder = s.builder ∧ (releaseHeads s q).slots = s.slots ∧
    (releaseHeads s q).fence = s.fence ∧ (releaseHeads s q).time = s.time ∧ (releaseHeads s q).report = s.report ∧
    (releaseHeads s q).orders = s.orders ∧ (releaseHeads s q).sweeper = s.sweeper ∧
    (releaseHeads s q).counters = s.counters ∧ (releaseHeads s q).choices = s.choices ∧
    (releaseHeads s q).pending = s.pending := by
  simp [releaseHeads]

/-- PRIMING holds of a bay are released (R120). -/
@[simp] theorem releasePriming_frame (s : State) (w : WinId) (bay : Nat) :
    (releasePriming s w bay).engine = s.engine ∧ (releasePriming s w bay).stall = s.stall ∧
    (releasePriming s w bay).upOut = s.upOut ∧ (releasePriming s w bay).port = s.port ∧
    (releasePriming s w bay).windows = s.windows ∧ (releasePriming s w bay).ctxs = s.ctxs ∧
    (releasePriming s w bay).serial = s.serial ∧ (releasePriming s w bay).pool = s.pool ∧
    (releasePriming s w bay).builder = s.builder ∧ (releasePriming s w bay).slots = s.slots ∧
    (releasePriming s w bay).fence = s.fence ∧ (releasePriming s w bay).time = s.time ∧
    (releasePriming s w bay).report = s.report ∧ (releasePriming s w bay).orders = s.orders ∧
    (releasePriming s w bay).sweeper = s.sweeper ∧ (releasePriming s w bay).counters = s.counters ∧
    (releasePriming s w bay).choices = s.choices ∧ (releasePriming s w bay).pending = s.pending := by
  simp [releasePriming]

/-- CONFLICT holds against a write are released (R111). -/
@[simp] theorem releaseConflicts_frame (s : State) (x : Request) :
    (releaseConflicts s x).engine = s.engine ∧ (releaseConflicts s x).stall = s.stall ∧
    (releaseConflicts s x).upOut = s.upOut ∧ (releaseConflicts s x).port = s.port ∧
    (releaseConflicts s x).windows = s.windows ∧ (releaseConflicts s x).ctxs = s.ctxs ∧
    (releaseConflicts s x).serial = s.serial ∧ (releaseConflicts s x).pool = s.pool ∧
    (releaseConflicts s x).builder = s.builder ∧ (releaseConflicts s x).slots = s.slots ∧
    (releaseConflicts s x).fence = s.fence ∧ (releaseConflicts s x).time = s.time ∧
    (releaseConflicts s x).report = s.report ∧ (releaseConflicts s x).orders = s.orders ∧
    (releaseConflicts s x).sweeper = s.sweeper ∧ (releaseConflicts s x).counters = s.counters ∧
    (releaseConflicts s x).choices = s.choices ∧ (releaseConflicts s x).pending = s.pending := by
  simp [releaseConflicts]

/-- A head is held for PRIMING (R118). -/
@[simp] theorem holdPriming_frame (s : State) (l : LaneId) (r : Request) :
    (holdPriming s l r).engine = s.engine ∧ (holdPriming s l r).stall = s.stall ∧
    (holdPriming s l r).upOut = s.upOut ∧ (holdPriming s l r).port = s.port ∧
    (holdPriming s l r).windows = s.windows ∧ (holdPriming s l r).ctxs = s.ctxs ∧
    (holdPriming s l r).serial = s.serial ∧ (holdPriming s l r).pool = s.pool ∧
    (holdPriming s l r).builder = s.builder ∧ (holdPriming s l r).slots = s.slots ∧
    (holdPriming s l r).fence = s.fence ∧ (holdPriming s l r).time = s.time ∧
    (holdPriming s l r).report = s.report ∧ (holdPriming s l r).orders = s.orders ∧
    (holdPriming s l r).sweeper = s.sweeper ∧ (holdPriming s l r).choices = s.choices ∧
    (holdPriming s l r).pending = s.pending := by
  simp [holdPriming]

/-- Records are built (R169). -/
@[simp] theorem build_frame (s : State) (rs : List Report) :
    (build s rs).engine = s.engine ∧ (build s rs).lanes = s.lanes ∧ (build s rs).stall = s.stall ∧
    (build s rs).upOut = s.upOut ∧ (build s rs).port = s.port ∧ (build s rs).windows = s.windows ∧
    (build s rs).ctxs = s.ctxs ∧ (build s rs).serial = s.serial ∧ (build s rs).pool = s.pool ∧
    (build s rs).builder = s.builder ∧ (build s rs).slots = s.slots ∧ (build s rs).fence = s.fence ∧
    (build s rs).time = s.time ∧ (build s rs).orders = s.orders ∧ (build s rs).sweeper = s.sweeper ∧
    (build s rs).counters = s.counters ∧ (build s rs).choices = s.choices ∧ (build s rs).pending = s.pending := by
  simp [build]

/-- A TRANSFER-END group is handed over (R62). -/
@[simp] theorem handTransferEnd_frame (s : State) (c : CtxId) (f : FinalRec) :
    (handTransferEnd s c f).engine = s.engine ∧ (handTransferEnd s c f).lanes = s.lanes ∧
    (handTransferEnd s c f).stall = s.stall ∧ (handTransferEnd s c f).upOut = s.upOut ∧
    (handTransferEnd s c f).port = s.port ∧ (handTransferEnd s c f).windows = s.windows ∧
    (handTransferEnd s c f).serial = s.serial ∧ (handTransferEnd s c f).pool = s.pool ∧
    (handTransferEnd s c f).builder = s.builder ∧ (handTransferEnd s c f).slots = s.slots ∧
    (handTransferEnd s c f).fence = s.fence ∧ (handTransferEnd s c f).time = s.time ∧
    (handTransferEnd s c f).orders = s.orders ∧ (handTransferEnd s c f).sweeper = s.sweeper ∧
    (handTransferEnd s c f).counters = s.counters ∧ (handTransferEnd s c f).choices = s.choices ∧
    (handTransferEnd s c f).pending = s.pending := by
  unfold handTransferEnd
  split <;> simp

/-- A WINDOW-APPLIED is handed over (R38). -/
@[simp] theorem handApplied_frame (s : State) (w : WinId) :
    (handApplied s w).engine = s.engine ∧ (handApplied s w).lanes = s.lanes ∧ (handApplied s w).stall = s.stall ∧
    (handApplied s w).upOut = s.upOut ∧ (handApplied s w).port = s.port ∧ (handApplied s w).ctxs = s.ctxs ∧
    (handApplied s w).serial = s.serial ∧ (handApplied s w).pool = s.pool ∧ (handApplied s w).builder = s.builder ∧
    (handApplied s w).slots = s.slots ∧ (handApplied s w).fence = s.fence ∧ (handApplied s w).time = s.time ∧
    (handApplied s w).orders = s.orders ∧ (handApplied s w).sweeper = s.sweeper ∧
    (handApplied s w).counters = s.counters ∧ (handApplied s w).choices = s.choices ∧
    (handApplied s w).pending = s.pending := by
  unfold handApplied
  split <;> simp

/-- A WINDOW-FENCED is handed over (R38). -/
@[simp] theorem handFenced_frame (s : State) (w : WinId) :
    (handFenced s w).engine = s.engine ∧ (handFenced s w).lanes = s.lanes ∧ (handFenced s w).stall = s.stall ∧
    (handFenced s w).upOut = s.upOut ∧ (handFenced s w).port = s.port ∧ (handFenced s w).ctxs = s.ctxs ∧
    (handFenced s w).serial = s.serial ∧ (handFenced s w).pool = s.pool ∧ (handFenced s w).builder = s.builder ∧
    (handFenced s w).slots = s.slots ∧ (handFenced s w).fence = s.fence ∧ (handFenced s w).time = s.time ∧
    (handFenced s w).orders = s.orders ∧ (handFenced s w).sweeper = s.sweeper ∧
    (handFenced s w).counters = s.counters ∧ (handFenced s w).choices = s.choices ∧
    (handFenced s w).pending = s.pending := by
  unfold handFenced
  split <;> simp

/-- A record of the sweeper is handed over (R161). -/
@[simp] theorem handSweeper_frame (s : State) (r : Report) :
    (handSweeper s r).engine = s.engine ∧ (handSweeper s r).lanes = s.lanes ∧ (handSweeper s r).stall = s.stall ∧
    (handSweeper s r).upOut = s.upOut ∧ (handSweeper s r).port = s.port ∧ (handSweeper s r).windows = s.windows ∧
    (handSweeper s r).ctxs = s.ctxs ∧ (handSweeper s r).serial = s.serial ∧ (handSweeper s r).pool = s.pool ∧
    (handSweeper s r).builder = s.builder ∧ (handSweeper s r).slots = s.slots ∧ (handSweeper s r).fence = s.fence ∧
    (handSweeper s r).time = s.time ∧ (handSweeper s r).orders = s.orders ∧
    (handSweeper s r).counters = s.counters ∧ (handSweeper s r).choices = s.choices ∧
    (handSweeper s r).pending = s.pending := by
  unfold handSweeper
  split <;> simp

/-- An ORDER-DONE is handed over (R166). -/
@[simp] theorem handOrderDone_frame (s : State) (r : Report) :
    (handOrderDone s r).engine = s.engine ∧ (handOrderDone s r).lanes = s.lanes ∧
    (handOrderDone s r).stall = s.stall ∧ (handOrderDone s r).upOut = s.upOut ∧ (handOrderDone s r).port = s.port ∧
    (handOrderDone s r).windows = s.windows ∧ (handOrderDone s r).ctxs = s.ctxs ∧
    (handOrderDone s r).serial = s.serial ∧ (handOrderDone s r).pool = s.pool ∧
    (handOrderDone s r).builder = s.builder ∧ (handOrderDone s r).slots = s.slots ∧
    (handOrderDone s r).fence = s.fence ∧ (handOrderDone s r).time = s.time ∧
    (handOrderDone s r).sweeper = s.sweeper ∧ (handOrderDone s r).counters = s.counters ∧
    (handOrderDone s r).choices = s.choices ∧ (handOrderDone s r).pending = s.pending := by
  unfold handOrderDone
  split <;> simp

/-- An owed item is built (R170). -/
@[simp] theorem grantItem_frame (s : State) (i : OwedItem) :
    (grantItem s i).engine = s.engine ∧ (grantItem s i).lanes = s.lanes ∧ (grantItem s i).stall = s.stall ∧
    (grantItem s i).upOut = s.upOut ∧ (grantItem s i).port = s.port ∧ (grantItem s i).serial = s.serial ∧
    (grantItem s i).pool = s.pool ∧ (grantItem s i).builder = s.builder ∧ (grantItem s i).slots = s.slots ∧
    (grantItem s i).fence = s.fence ∧ (grantItem s i).time = s.time ∧ (grantItem s i).counters = s.counters ∧
    (grantItem s i).choices = s.choices ∧ (grantItem s i).pending = s.pending := by
  cases i with
  | applied w => simp [grantItem]
  | fenced w => simp [grantItem]
  | transfer c => simp only [grantItem]; split <;> simp
  | sweeper r => simp [grantItem]
  | orderDone r => simp [grantItem]

/-- Room is granted (R170). -/
@[simp] theorem grantRoom_frame (n : Nat) (s : State) :
    (grantRoom n s).engine = s.engine ∧ (grantRoom n s).lanes = s.lanes ∧ (grantRoom n s).stall = s.stall ∧
    (grantRoom n s).upOut = s.upOut ∧ (grantRoom n s).port = s.port ∧ (grantRoom n s).serial = s.serial ∧
    (grantRoom n s).pool = s.pool ∧ (grantRoom n s).builder = s.builder ∧ (grantRoom n s).slots = s.slots ∧
    (grantRoom n s).fence = s.fence ∧ (grantRoom n s).time = s.time ∧ (grantRoom n s).counters = s.counters ∧
    (grantRoom n s).choices = s.choices ∧ (grantRoom n s).pending = s.pending := by
  induction n generalizing s with
  | zero => simp [grantRoom]
  | succ n ih =>
    unfold grantRoom
    split
    · simp
    · split
      · simp [ih]
      · simp

/-- A record leaves the pending list (R171). -/
@[simp] theorem drain_frame (s : State) :
    (drain s).engine = s.engine ∧ (drain s).lanes = s.lanes ∧ (drain s).stall = s.stall ∧
    (drain s).upOut = s.upOut ∧ (drain s).serial = s.serial ∧ (drain s).pool = s.pool ∧
    (drain s).builder = s.builder ∧ (drain s).slots = s.slots ∧ (drain s).fence = s.fence ∧
    (drain s).time = s.time ∧ (drain s).counters = s.counters ∧ (drain s).choices = s.choices ∧
    (drain s).pending = s.pending := by
  unfold drain
  repeat' split
  all_goals simp

/-- ATTN is evaluated (R173). -/
@[simp] theorem evalAttn_frame (s : State) :
    (evalAttn s).lanes = s.lanes ∧ (evalAttn s).stall = s.stall ∧ (evalAttn s).upOut = s.upOut ∧
    (evalAttn s).port = s.port ∧ (evalAttn s).windows = s.windows ∧ (evalAttn s).ctxs = s.ctxs ∧
    (evalAttn s).serial = s.serial ∧ (evalAttn s).pool = s.pool ∧ (evalAttn s).builder = s.builder ∧
    (evalAttn s).slots = s.slots ∧ (evalAttn s).fence = s.fence ∧ (evalAttn s).time = s.time ∧
    (evalAttn s).report = s.report ∧ (evalAttn s).orders = s.orders ∧ (evalAttn s).sweeper = s.sweeper ∧
    (evalAttn s).counters = s.counters ∧ (evalAttn s).choices = s.choices ∧ (evalAttn s).pending = s.pending := by
  simp [evalAttn]

/-- The Order Unit has become able (R165). -/
@[simp] theorem noteAble_frame (b : Bool) (s : State) :
    (noteAble b s).engine = s.engine ∧ (noteAble b s).lanes = s.lanes ∧ (noteAble b s).stall = s.stall ∧
    (noteAble b s).upOut = s.upOut ∧ (noteAble b s).port = s.port ∧ (noteAble b s).windows = s.windows ∧
    (noteAble b s).ctxs = s.ctxs ∧ (noteAble b s).serial = s.serial ∧ (noteAble b s).pool = s.pool ∧
    (noteAble b s).builder = s.builder ∧ (noteAble b s).slots = s.slots ∧ (noteAble b s).fence = s.fence ∧
    (noteAble b s).time = s.time ∧ (noteAble b s).report = s.report ∧ (noteAble b s).sweeper = s.sweeper ∧
    (noteAble b s).counters = s.counters ∧ (noteAble b s).choices = s.choices ∧
    (noteAble b s).pending = s.pending := by
  unfold noteAble
  split <;> simp

/-- An event of the Report Unit's clients closes. -/
@[simp] theorem settle_frame (b s : State) :
    (settle b s).lanes = s.lanes ∧ (settle b s).stall = s.stall ∧ (settle b s).upOut = s.upOut ∧
    (settle b s).serial = s.serial ∧ (settle b s).pool = s.pool ∧ (settle b s).builder = s.builder ∧
    (settle b s).slots = s.slots ∧ (settle b s).fence = s.fence ∧ (settle b s).time = s.time ∧
    (settle b s).counters = s.counters ∧ (settle b s).choices = s.choices ∧ (settle b s).pending = s.pending := by
  simp [settle]

/-- A visit is discarded (R158). -/
@[simp] theorem discardVisit_frame (s : State) :
    (discardVisit s).engine = s.engine ∧ (discardVisit s).lanes = s.lanes ∧ (discardVisit s).stall = s.stall ∧
    (discardVisit s).upOut = s.upOut ∧ (discardVisit s).windows = s.windows ∧ (discardVisit s).ctxs = s.ctxs ∧
    (discardVisit s).serial = s.serial ∧ (discardVisit s).pool = s.pool ∧ (discardVisit s).builder = s.builder ∧
    (discardVisit s).slots = s.slots ∧ (discardVisit s).fence = s.fence ∧ (discardVisit s).time = s.time ∧
    (discardVisit s).report = s.report ∧ (discardVisit s).orders = s.orders ∧
    (discardVisit s).counters = s.counters ∧ (discardVisit s).choices = s.choices ∧
    (discardVisit s).pending = s.pending := by
  unfold discardVisit
  split <;> simp

/-- A sweep is stopped (R159). -/
@[simp] theorem stopSweepFor_frame (s : State) (x : SweepCause) :
    (stopSweepFor s x).engine = s.engine ∧ (stopSweepFor s x).lanes = s.lanes ∧
    (stopSweepFor s x).stall = s.stall ∧ (stopSweepFor s x).upOut = s.upOut ∧
    (stopSweepFor s x).windows = s.windows ∧ (stopSweepFor s x).ctxs = s.ctxs ∧
    (stopSweepFor s x).serial = s.serial ∧ (stopSweepFor s x).pool = s.pool ∧
    (stopSweepFor s x).builder = s.builder ∧ (stopSweepFor s x).slots = s.slots ∧
    (stopSweepFor s x).fence = s.fence ∧ (stopSweepFor s x).time = s.time ∧ (stopSweepFor s x).orders = s.orders ∧
    (stopSweepFor s x).counters = s.counters ∧ (stopSweepFor s x).choices = s.choices ∧
    (stopSweepFor s x).pending = s.pending := by
  unfold stopSweepFor
  split <;> simp

/-- A visit ends (R154). -/
@[simp] theorem endVisit_frame (s : State) :
    (endVisit s).engine = s.engine ∧ (endVisit s).lanes = s.lanes ∧ (endVisit s).stall = s.stall ∧
    (endVisit s).upOut = s.upOut ∧ (endVisit s).port = s.port ∧ (endVisit s).windows = s.windows ∧
    (endVisit s).ctxs = s.ctxs ∧ (endVisit s).serial = s.serial ∧ (endVisit s).pool = s.pool ∧
    (endVisit s).builder = s.builder ∧ (endVisit s).slots = s.slots ∧ (endVisit s).fence = s.fence ∧
    (endVisit s).time = s.time ∧ (endVisit s).orders = s.orders ∧ (endVisit s).counters = s.counters ∧
    (endVisit s).choices = s.choices ∧ (endVisit s).pending = s.pending := by
  unfold endVisit
  repeat' split
  all_goals simp

/-- A visit is abandoned (R158). -/
@[simp] theorem abandonVisit_frame (s : State) (c : CtxId) :
    (abandonVisit s c).engine = s.engine ∧ (abandonVisit s c).lanes = s.lanes ∧
    (abandonVisit s c).stall = s.stall ∧ (abandonVisit s c).upOut = s.upOut ∧
    (abandonVisit s c).windows = s.windows ∧ (abandonVisit s c).ctxs = s.ctxs ∧
    (abandonVisit s c).serial = s.serial ∧ (abandonVisit s c).pool = s.pool ∧
    (abandonVisit s c).builder = s.builder ∧ (abandonVisit s c).slots = s.slots ∧
    (abandonVisit s c).fence = s.fence ∧ (abandonVisit s c).time = s.time ∧ (abandonVisit s c).orders = s.orders ∧
    (abandonVisit s c).counters = s.counters ∧ (abandonVisit s c).choices = s.choices ∧
    (abandonVisit s c).pending = s.pending := by
  unfold abandonVisit
  repeat' split
  all_goals simp

/-- A sweep of a window is stopped (R32). -/
@[simp] theorem stopSweepOf_frame (s : State) (w : WinId) :
    (stopSweepOf s w).engine = s.engine ∧ (stopSweepOf s w).lanes = s.lanes ∧ (stopSweepOf s w).stall = s.stall ∧
    (stopSweepOf s w).upOut = s.upOut ∧ (stopSweepOf s w).windows = s.windows ∧ (stopSweepOf s w).ctxs = s.ctxs ∧
    (stopSweepOf s w).serial = s.serial ∧ (stopSweepOf s w).pool = s.pool ∧ (stopSweepOf s w).builder = s.builder ∧
    (stopSweepOf s w).slots = s.slots ∧ (stopSweepOf s w).fence = s.fence ∧ (stopSweepOf s w).time = s.time ∧
    (stopSweepOf s w).orders = s.orders ∧ (stopSweepOf s w).counters = s.counters ∧
    (stopSweepOf s w).choices = s.choices ∧ (stopSweepOf s w).pending = s.pending := by
  unfold stopSweepOf
  repeat' split
  all_goals simp

/-- A definition is applied (R32). -/
@[simp] theorem applyDef_frame (s : State) (w : WinId) (t : TakenDef) :
    (applyDef s w t).engine = s.engine ∧ (applyDef s w t).lanes = s.lanes ∧ (applyDef s w t).stall = s.stall ∧
    (applyDef s w t).upOut = s.upOut ∧ (applyDef s w t).ctxs = s.ctxs ∧ (applyDef s w t).serial = s.serial ∧
    (applyDef s w t).pool = s.pool ∧ (applyDef s w t).builder = s.builder ∧ (applyDef s w t).slots = s.slots ∧
    (applyDef s w t).fence = s.fence ∧ (applyDef s w t).time = s.time ∧ (applyDef s w t).orders = s.orders ∧
    (applyDef s w t).counters = s.counters ∧ (applyDef s w t).choices = s.choices ∧
    (applyDef s w t).pending = s.pending := by
  simp [applyDef]

/-- A staged definition is applied (R33). -/
@[simp] theorem drainApply_frame (s : State) (w : WinId) :
    (drainApply s w).engine = s.engine ∧ (drainApply s w).lanes = s.lanes ∧ (drainApply s w).stall = s.stall ∧
    (drainApply s w).upOut = s.upOut ∧ (drainApply s w).ctxs = s.ctxs ∧ (drainApply s w).serial = s.serial ∧
    (drainApply s w).pool = s.pool ∧ (drainApply s w).builder = s.builder ∧ (drainApply s w).slots = s.slots ∧
    (drainApply s w).fence = s.fence ∧ (drainApply s w).time = s.time ∧ (drainApply s w).orders = s.orders ∧
    (drainApply s w).counters = s.counters ∧ (drainApply s w).choices = s.choices ∧
    (drainApply s w).pending = s.pending := by
  unfold drainApply
  repeat' split
  all_goals simp

/-- A window hears of a final state (R34, R35). -/
@[simp] theorem notifyWindow_frame (s : State) (w : WinId) (f : CtxState) :
    (notifyWindow s w f).engine = s.engine ∧ (notifyWindow s w f).lanes = s.lanes ∧
    (notifyWindow s w f).stall = s.stall ∧ (notifyWindow s w f).upOut = s.upOut ∧
    (notifyWindow s w f).port = s.port ∧ (notifyWindow s w f).ctxs = s.ctxs ∧
    (notifyWindow s w f).serial = s.serial ∧ (notifyWindow s w f).pool = s.pool ∧
    (notifyWindow s w f).builder = s.builder ∧ (notifyWindow s w f).slots = s.slots ∧
    (notifyWindow s w f).fence = s.fence ∧ (notifyWindow s w f).time = s.time ∧
    (notifyWindow s w f).orders = s.orders ∧ (notifyWindow s w f).sweeper = s.sweeper ∧
    (notifyWindow s w f).counters = s.counters ∧ (notifyWindow s w f).choices = s.choices ∧
    (notifyWindow s w f).pending = s.pending := by
  simp only [notifyWindow]
  split <;> simp

/-- A held read is released (R135). -/
@[simp] theorem releaseRead_frame (c : CtxId) (s : State) (l : LaneId) :
    (releaseRead c s l).engine = s.engine ∧ (releaseRead c s l).stall = s.stall ∧
    (releaseRead c s l).upOut = s.upOut ∧ (releaseRead c s l).windows = s.windows ∧
    (releaseRead c s l).ctxs = s.ctxs ∧ (releaseRead c s l).serial = s.serial ∧ (releaseRead c s l).pool = s.pool ∧
    (releaseRead c s l).builder = s.builder ∧ (releaseRead c s l).slots = s.slots ∧
    (releaseRead c s l).time = s.time ∧ (releaseRead c s l).report = s.report ∧
    (releaseRead c s l).orders = s.orders ∧ (releaseRead c s l).sweeper = s.sweeper ∧
    (releaseRead c s l).choices = s.choices ∧ (releaseRead c s l).pending = s.pending := by
  unfold releaseRead
  repeat' split
  all_goals simp

/-- A held read is failed (R136). -/
@[simp] theorem failRead_frame (c : CtxId) (s : State) (l : LaneId) :
    (failRead c s l).engine = s.engine ∧ (failRead c s l).stall = s.stall ∧ (failRead c s l).port = s.port ∧
    (failRead c s l).windows = s.windows ∧ (failRead c s l).ctxs = s.ctxs ∧ (failRead c s l).serial = s.serial ∧
    (failRead c s l).pool = s.pool ∧ (failRead c s l).builder = s.builder ∧ (failRead c s l).slots = s.slots ∧
    (failRead c s l).time = s.time ∧ (failRead c s l).report = s.report ∧ (failRead c s l).orders = s.orders ∧
    (failRead c s l).sweeper = s.sweeper ∧ (failRead c s l).choices = s.choices ∧
    (failRead c s l).pending = s.pending := by
  unfold failRead
  repeat' split
  all_goals simp

/-- The Fence Unit hears of an outcome (R48). -/
@[simp] theorem fenceOutcome_frame (s : State) (c : CtxId) (f : CtxState) :
    (fenceOutcome s c f).engine = s.engine ∧ (fenceOutcome s c f).stall = s.stall ∧
    (fenceOutcome s c f).windows = s.windows ∧ (fenceOutcome s c f).ctxs = s.ctxs ∧
    (fenceOutcome s c f).serial = s.serial ∧ (fenceOutcome s c f).pool = s.pool ∧
    (fenceOutcome s c f).builder = s.builder ∧ (fenceOutcome s c f).slots = s.slots ∧
    (fenceOutcome s c f).time = s.time ∧ (fenceOutcome s c f).report = s.report ∧
    (fenceOutcome s c f).orders = s.orders ∧ (fenceOutcome s c f).sweeper = s.sweeper ∧
    (fenceOutcome s c f).choices = s.choices ∧ (fenceOutcome s c f).pending = s.pending := by
  unfold fenceOutcome
  split
  · exact ⟨foldl_unchanged (·.engine) _ (by simp) _ _, foldl_unchanged (·.stall) _ (by simp) _ _,
      foldl_unchanged (·.windows) _ (by simp) _ _, foldl_unchanged (·.ctxs) _ (by simp) _ _,
      foldl_unchanged (·.serial) _ (by simp) _ _, foldl_unchanged (·.pool) _ (by simp) _ _,
      foldl_unchanged (·.builder) _ (by simp) _ _, foldl_unchanged (·.slots) _ (by simp) _ _,
      foldl_unchanged (·.time) _ (by simp) _ _, foldl_unchanged (·.report) _ (by simp) _ _,
      foldl_unchanged (·.orders) _ (by simp) _ _, foldl_unchanged (·.sweeper) _ (by simp) _ _,
      foldl_unchanged (·.choices) _ (by simp) _ _, foldl_unchanged (·.pending) _ (by simp) _ _⟩
  · exact ⟨foldl_unchanged (·.engine) _ (by simp) _ _, foldl_unchanged (·.stall) _ (by simp) _ _,
      foldl_unchanged (·.windows) _ (by simp) _ _, foldl_unchanged (·.ctxs) _ (by simp) _ _,
      foldl_unchanged (·.serial) _ (by simp) _ _, foldl_unchanged (·.pool) _ (by simp) _ _,
      foldl_unchanged (·.builder) _ (by simp) _ _, foldl_unchanged (·.slots) _ (by simp) _ _,
      foldl_unchanged (·.time) _ (by simp) _ _, foldl_unchanged (·.report) _ (by simp) _ _,
      foldl_unchanged (·.orders) _ (by simp) _ _, foldl_unchanged (·.sweeper) _ (by simp) _ _,
      foldl_unchanged (·.choices) _ (by simp) _ _, foldl_unchanged (·.pending) _ (by simp) _ _⟩

/-- A context's reconciles are detached (R106). -/
@[simp] theorem detachSlots_frame (s : State) (c : CtxId) :
    (detachSlots s c).engine = s.engine ∧ (detachSlots s c).lanes = s.lanes ∧ (detachSlots s c).stall = s.stall ∧
    (detachSlots s c).upOut = s.upOut ∧ (detachSlots s c).port = s.port ∧ (detachSlots s c).windows = s.windows ∧
    (detachSlots s c).ctxs = s.ctxs ∧ (detachSlots s c).serial = s.serial ∧ (detachSlots s c).pool = s.pool ∧
    (detachSlots s c).builder = s.builder ∧ (detachSlots s c).fence = s.fence ∧ (detachSlots s c).time = s.time ∧
    (detachSlots s c).report = s.report ∧ (detachSlots s c).orders = s.orders ∧
    (detachSlots s c).sweeper = s.sweeper ∧ (detachSlots s c).choices = s.choices ∧
    (detachSlots s c).pending = s.pending := by
  simp [detachSlots]

/-- The pool level changes (R66). -/
@[simp] theorem setPool_frame (s : State) (n : Nat) :
    (setPool s n).engine = s.engine ∧ (setPool s n).lanes = s.lanes ∧ (setPool s n).stall = s.stall ∧
    (setPool s n).upOut = s.upOut ∧ (setPool s n).port = s.port ∧ (setPool s n).windows = s.windows ∧
    (setPool s n).ctxs = s.ctxs ∧ (setPool s n).serial = s.serial ∧ (setPool s n).builder = s.builder ∧
    (setPool s n).slots = s.slots ∧ (setPool s n).fence = s.fence ∧ (setPool s n).time = s.time ∧
    (setPool s n).report = s.report ∧ (setPool s n).orders = s.orders ∧ (setPool s n).sweeper = s.sweeper ∧
    (setPool s n).counters = s.counters ∧ (setPool s n).choices = s.choices ∧ (setPool s n).pending = s.pending := by
  simp [setPool]

/-- A list returns to the pool (R78). -/
@[simp] theorem returnList_frame (s : State) (c : CtxId) :
    (returnList s c).engine = s.engine ∧ (returnList s c).lanes = s.lanes ∧ (returnList s c).stall = s.stall ∧
    (returnList s c).upOut = s.upOut ∧ (returnList s c).port = s.port ∧ (returnList s c).windows = s.windows ∧
    (returnList s c).serial = s.serial ∧ (returnList s c).builder = s.builder ∧ (returnList s c).slots = s.slots ∧
    (returnList s c).fence = s.fence ∧ (returnList s c).time = s.time ∧ (returnList s c).report = s.report ∧
    (returnList s c).orders = s.orders ∧ (returnList s c).sweeper = s.sweeper ∧
    (returnList s c).counters = s.counters ∧ (returnList s c).choices = s.choices ∧
    (returnList s c).pending = s.pending := by
  simp [returnList]

/-- A context enters its first final state (R48). -/
@[simp] theorem enterFinal_frame (s : State) (c : CtxId) (f : FinalRec) :
    (enterFinal s c f).engine = s.engine ∧ (enterFinal s c f).stall = s.stall ∧
    (enterFinal s c f).serial = s.serial ∧ (enterFinal s c f).builder = s.builder ∧
    (enterFinal s c f).time = s.time ∧ (enterFinal s c f).orders = s.orders ∧
    (enterFinal s c f).sweeper = s.sweeper ∧ (enterFinal s c f).choices = s.choices ∧
    (enterFinal s c f).pending = s.pending := by
  simp only [enterFinal]
  split <;> simp

/-- A VERIFIED context takes its second final state (R50). -/
@[simp] theorem enterSecond_frame (s : State) (c : CtxId) (f : FinalRec) :
    (enterSecond s c f).engine = s.engine ∧ (enterSecond s c f).lanes = s.lanes ∧
    (enterSecond s c f).stall = s.stall ∧ (enterSecond s c f).upOut = s.upOut ∧ (enterSecond s c f).port = s.port ∧
    (enterSecond s c f).serial = s.serial ∧ (enterSecond s c f).pool = s.pool ∧
    (enterSecond s c f).builder = s.builder ∧ (enterSecond s c f).slots = s.slots ∧
    (enterSecond s c f).fence = s.fence ∧ (enterSecond s c f).time = s.time ∧
    (enterSecond s c f).orders = s.orders ∧ (enterSecond s c f).sweeper = s.sweeper ∧
    (enterSecond s c f).counters = s.counters ∧ (enterSecond s c f).choices = s.choices ∧
    (enterSecond s c f).pending = s.pending := by
  simp only [enterSecond]
  split <;> simp

/-- A VERIFIED context becomes TAINTED (R50). -/
@[simp] theorem taint_frame (s : State) (c : CtxId) (x : Cause) :
    (taint s c x).engine = s.engine ∧ (taint s c x).lanes = s.lanes ∧ (taint s c x).stall = s.stall ∧
    (taint s c x).upOut = s.upOut ∧ (taint s c x).serial = s.serial ∧ (taint s c x).pool = s.pool ∧
    (taint s c x).builder = s.builder ∧ (taint s c x).slots = s.slots ∧ (taint s c x).fence = s.fence ∧
    (taint s c x).time = s.time ∧ (taint s c x).orders = s.orders ∧ (taint s c x).counters = s.counters ∧
    (taint s c x).choices = s.choices ∧ (taint s c x).pending = s.pending := by
  simp [taint]

/-- A tracking failure (R49). -/
@[simp] theorem loseTransfer_frame (s : State) (c : CtxId) (x : Cause) :
    (loseTransfer s c x).engine = s.engine ∧ (loseTransfer s c x).stall = s.stall ∧
    (loseTransfer s c x).serial = s.serial ∧ (loseTransfer s c x).builder = s.builder ∧
    (loseTransfer s c x).time = s.time ∧ (loseTransfer s c x).orders = s.orders ∧
    (loseTransfer s c x).sweeper = s.sweeper ∧ (loseTransfer s c x).choices = s.choices ∧
    (loseTransfer s c x).pending = s.pending := by
  unfold loseTransfer
  split <;> simp

/-- A context returns to FREE (R55). -/
@[simp] theorem returnToFree_frame (s : State) (c : CtxId) :
    (returnToFree s c).engine = s.engine ∧ (returnToFree s c).lanes = s.lanes ∧
    (returnToFree s c).stall = s.stall ∧ (returnToFree s c).upOut = s.upOut ∧
    (returnToFree s c).serial = s.serial ∧ (returnToFree s c).pool = s.pool ∧
    (returnToFree s c).builder = s.builder ∧ (returnToFree s c).slots = s.slots ∧
    (returnToFree s c).fence = s.fence ∧ (returnToFree s c).time = s.time ∧ (returnToFree s c).orders = s.orders ∧
    (returnToFree s c).counters = s.counters ∧ (returnToFree s c).choices = s.choices ∧
    (returnToFree s c).pending = s.pending := by
  unfold returnToFree
  split <;> simp

/-- A context is bound (R43). -/
@[simp] theorem bindContext_frame (s : State) (c : CtxId) (w : WinId) (bay key : Nat) (len : Option Nat) (x : Option Word64) :
    (bindContext s c w bay key len x).engine = s.engine ∧ (bindContext s c w bay key len x).lanes = s.lanes ∧
    (bindContext s c w bay key len x).stall = s.stall ∧ (bindContext s c w bay key len x).upOut = s.upOut ∧
    (bindContext s c w bay key len x).port = s.port ∧ (bindContext s c w bay key len x).pool = s.pool ∧
    (bindContext s c w bay key len x).slots = s.slots ∧ (bindContext s c w bay key len x).fence = s.fence ∧
    (bindContext s c w bay key len x).time = s.time ∧ (bindContext s c w bay key len x).report = s.report ∧
    (bindContext s c w bay key len x).orders = s.orders ∧ (bindContext s c w bay key len x).sweeper = s.sweeper ∧
    (bindContext s c w bay key len x).counters = s.counters ∧
    (bindContext s c w bay key len x).choices = s.choices ∧ (bindContext s c w bay key len x).pending = s.pending := by
  simp [bindContext]

/-- An occasion of the verdict (R90). -/
@[simp] theorem verdictOccasion_frame (s : State) (c : CtxId) :
    (verdictOccasion s c).engine = s.engine ∧ (verdictOccasion s c).stall = s.stall ∧
    (verdictOccasion s c).serial = s.serial ∧ (verdictOccasion s c).builder = s.builder ∧
    (verdictOccasion s c).time = s.time ∧ (verdictOccasion s c).orders = s.orders ∧
    (verdictOccasion s c).sweeper = s.sweeper ∧ (verdictOccasion s c).choices = s.choices ∧
    (verdictOccasion s c).pending = s.pending := by
  simp only [verdictOccasion]
  repeat' split
  all_goals simp

/-- A trailer write is taken (R83 to R87). -/
@[simp] theorem takeTrailer_frame (s : State) (c : CtxId) (t : Touch) (x : List Byte) :
    (takeTrailer s c t x).engine = s.engine ∧ (takeTrailer s c t x).stall = s.stall ∧
    (takeTrailer s c t x).serial = s.serial ∧ (takeTrailer s c t x).builder = s.builder ∧
    (takeTrailer s c t x).time = s.time ∧ (takeTrailer s c t x).orders = s.orders ∧
    (takeTrailer s c t x).sweeper = s.sweeper ∧ (takeTrailer s c t x).choices = s.choices ∧
    (takeTrailer s c t x).pending = s.pending := by
  simp only [takeTrailer]
  repeat' split
  all_goals simp

/-- A trailer write after the verdict (R94). -/
@[simp] theorem rewriteTrailer_frame (s : State) (c : CtxId) (t : Touch) (x : List Byte) :
    (rewriteTrailer s c t x).engine = s.engine ∧ (rewriteTrailer s c t x).lanes = s.lanes ∧
    (rewriteTrailer s c t x).stall = s.stall ∧ (rewriteTrailer s c t x).upOut = s.upOut ∧
    (rewriteTrailer s c t x).serial = s.serial ∧ (rewriteTrailer s c t x).pool = s.pool ∧
    (rewriteTrailer s c t x).builder = s.builder ∧ (rewriteTrailer s c t x).slots = s.slots ∧
    (rewriteTrailer s c t x).fence = s.fence ∧ (rewriteTrailer s c t x).time = s.time ∧
    (rewriteTrailer s c t x).orders = s.orders ∧ (rewriteTrailer s c t x).counters = s.counters ∧
    (rewriteTrailer s c t x).choices = s.choices ∧ (rewriteTrailer s c t x).pending = s.pending := by
  simp only [rewriteTrailer]
  split <;> simp

/-- A forwarded write is copied into the shadow (R164). -/
@[simp] theorem copyToShadow_frame (s : State) (r : Request) :
    (copyToShadow s r).engine = s.engine ∧ (copyToShadow s r).lanes = s.lanes ∧
    (copyToShadow s r).stall = s.stall ∧ (copyToShadow s r).upOut = s.upOut ∧ (copyToShadow s r).port = s.port ∧
    (copyToShadow s r).windows = s.windows ∧ (copyToShadow s r).ctxs = s.ctxs ∧
    (copyToShadow s r).serial = s.serial ∧ (copyToShadow s r).pool = s.pool ∧
    (copyToShadow s r).builder = s.builder ∧ (copyToShadow s r).slots = s.slots ∧
    (copyToShadow s r).fence = s.fence ∧ (copyToShadow s r).time = s.time ∧
    (copyToShadow s r).sweeper = s.sweeper ∧ (copyToShadow s r).counters = s.counters ∧
    (copyToShadow s r).choices = s.choices ∧ (copyToShadow s r).pending = s.pending := by
  have h0 : (copyToShadow s r).engine = s.engine := by
    simp only [copyToShadow, apply_ite State.engine, modReport_engine, modOrders_engine, ite_self]
  have h1 : (copyToShadow s r).lanes = s.lanes := by
    simp only [copyToShadow, apply_ite State.lanes, modReport_lanes, modOrders_lanes, ite_self]
  have h2 : (copyToShadow s r).stall = s.stall := by
    simp only [copyToShadow, apply_ite State.stall, modReport_stall, modOrders_stall, ite_self]
  have h3 : (copyToShadow s r).upOut = s.upOut := by
    simp only [copyToShadow, apply_ite State.upOut, modReport_upOut, modOrders_upOut, ite_self]
  have h4 : (copyToShadow s r).port = s.port := by
    simp only [copyToShadow, apply_ite State.port, modReport_port, modOrders_port, ite_self]
  have h5 : (copyToShadow s r).windows = s.windows := by
    simp only [copyToShadow, apply_ite State.windows, modReport_windows, modOrders_windows, ite_self]
  have h6 : (copyToShadow s r).ctxs = s.ctxs := by
    simp only [copyToShadow, apply_ite State.ctxs, modReport_ctxs, modOrders_ctxs, ite_self]
  have h7 : (copyToShadow s r).serial = s.serial := by
    simp only [copyToShadow, apply_ite State.serial, modReport_serial, modOrders_serial, ite_self]
  have h8 : (copyToShadow s r).pool = s.pool := by
    simp only [copyToShadow, apply_ite State.pool, modReport_pool, modOrders_pool, ite_self]
  have h9 : (copyToShadow s r).builder = s.builder := by
    simp only [copyToShadow, apply_ite State.builder, modReport_builder, modOrders_builder, ite_self]
  have h10 : (copyToShadow s r).slots = s.slots := by
    simp only [copyToShadow, apply_ite State.slots, modReport_slots, modOrders_slots, ite_self]
  have h11 : (copyToShadow s r).fence = s.fence := by
    simp only [copyToShadow, apply_ite State.fence, modReport_fence, modOrders_fence, ite_self]
  have h12 : (copyToShadow s r).time = s.time := by
    simp only [copyToShadow, apply_ite State.time, modReport_time, modOrders_time, ite_self]
  have h13 : (copyToShadow s r).sweeper = s.sweeper := by
    simp only [copyToShadow, apply_ite State.sweeper, modReport_sweeper, modOrders_sweeper, ite_self]
  have h14 : (copyToShadow s r).counters = s.counters := by
    simp only [copyToShadow, apply_ite State.counters, modReport_counters, modOrders_counters, ite_self]
  have h15 : (copyToShadow s r).choices = s.choices := by
    simp only [copyToShadow, apply_ite State.choices, modReport_choices, modOrders_choices, ite_self]
  have h16 : (copyToShadow s r).pending = s.pending := by
    simp only [copyToShadow, apply_ite State.pending, modReport_pending, modOrders_pending, ite_self]
  exact ⟨h0, h1, h2, h3, h4, h5, h6, h7, h8, h9, h10, h11, h12, h13, h14, h15, h16⟩

/-- A status block is handed over (R167). -/
@[simp] theorem handBlock_frame (s : State) (n : Nat) :
    (handBlock s n).engine = s.engine ∧ (handBlock s n).lanes = s.lanes ∧ (handBlock s n).stall = s.stall ∧
    (handBlock s n).upOut = s.upOut ∧ (handBlock s n).windows = s.windows ∧ (handBlock s n).ctxs = s.ctxs ∧
    (handBlock s n).serial = s.serial ∧ (handBlock s n).pool = s.pool ∧ (handBlock s n).builder = s.builder ∧
    (handBlock s n).slots = s.slots ∧ (handBlock s n).fence = s.fence ∧ (handBlock s n).time = s.time ∧
    (handBlock s n).orders = s.orders ∧ (handBlock s n).sweeper = s.sweeper ∧
    (handBlock s n).counters = s.counters ∧ (handBlock s n).choices = s.choices ∧
    (handBlock s n).pending = s.pending := by
  simp [handBlock]

/-- A snapshot begins (R167). -/
@[simp] theorem beginSnapshot_frame (s : State) :
    (beginSnapshot s).engine = s.engine ∧ (beginSnapshot s).lanes = s.lanes ∧ (beginSnapshot s).stall = s.stall ∧
    (beginSnapshot s).upOut = s.upOut ∧ (beginSnapshot s).windows = s.windows ∧ (beginSnapshot s).ctxs = s.ctxs ∧
    (beginSnapshot s).serial = s.serial ∧ (beginSnapshot s).pool = s.pool ∧ (beginSnapshot s).builder = s.builder ∧
    (beginSnapshot s).slots = s.slots ∧ (beginSnapshot s).fence = s.fence ∧ (beginSnapshot s).time = s.time ∧
    (beginSnapshot s).orders = s.orders ∧ (beginSnapshot s).sweeper = s.sweeper ∧
    (beginSnapshot s).counters = s.counters ∧ (beginSnapshot s).choices = s.choices ∧
    (beginSnapshot s).pending = s.pending := by
  simp [beginSnapshot]

/-- A snapshot is requested (R167). -/
@[simp] theorem requestSnapshot_frame (s : State) :
    (requestSnapshot s).engine = s.engine ∧ (requestSnapshot s).lanes = s.lanes ∧
    (requestSnapshot s).stall = s.stall ∧ (requestSnapshot s).upOut = s.upOut ∧
    (requestSnapshot s).windows = s.windows ∧ (requestSnapshot s).ctxs = s.ctxs ∧
    (requestSnapshot s).serial = s.serial ∧ (requestSnapshot s).pool = s.pool ∧
    (requestSnapshot s).builder = s.builder ∧ (requestSnapshot s).slots = s.slots ∧
    (requestSnapshot s).fence = s.fence ∧ (requestSnapshot s).time = s.time ∧
    (requestSnapshot s).orders = s.orders ∧ (requestSnapshot s).sweeper = s.sweeper ∧
    (requestSnapshot s).counters = s.counters ∧ (requestSnapshot s).choices = s.choices ∧
    (requestSnapshot s).pending = s.pending := by
  unfold requestSnapshot
  split <;> simp

/-- A held head is disposed of at the entry to HALTED (R129). -/
@[simp] theorem haltHead_frame (s : State) (l : LaneId) :
    (haltHead s l).engine = s.engine ∧ (haltHead s l).stall = s.stall ∧ (haltHead s l).windows = s.windows ∧
    (haltHead s l).ctxs = s.ctxs ∧ (haltHead s l).serial = s.serial ∧ (haltHead s l).pool = s.pool ∧
    (haltHead s l).builder = s.builder ∧ (haltHead s l).slots = s.slots ∧ (haltHead s l).fence = s.fence ∧
    (haltHead s l).time = s.time ∧ (haltHead s l).report = s.report ∧ (haltHead s l).orders = s.orders ∧
    (haltHead s l).sweeper = s.sweeper ∧ (haltHead s l).counters = s.counters ∧
    (haltHead s l).choices = s.choices ∧ (haltHead s l).pending = s.pending := by
  unfold haltHead
  repeat' split
  all_goals simp

/-! ### The pending list -/

theorem appendRecords_map (u : ReportUnit) (rs : List Report) :
    (appendRecords u rs).list.map (·.body) = u.list.map (·.body) ++ rs := by
  induction rs generalizing u with
  | nil => simp [appendRecords]
  | cons r rest ih => simp [appendRecords, ih]

theorem appendRecords_seq (u : ReportUnit) (rs : List Report) :
    (appendRecords u rs).seq = u.seq + BitVec.ofNat 32 rs.length := by
  induction rs generalizing u with
  | nil => simp [appendRecords]
  | cons r rest ih =>
    rw [appendRecords, ih, List.length_cons, Nat.add_comm rest.length 1, BitVec.ofNat_add, ← BitVec.add_assoc]
    rfl

/-- Of the Report Unit, a build changes the list and the sequence number alone. -/
theorem appendRecords_rest (u : ReportUnit) (rs : List Report) :
    appendRecords u rs = { u with list := (appendRecords u rs).list, seq := (appendRecords u rs).seq } := by
  induction rs generalizing u with
  | nil => rfl
  | cons r rest ih => rw [appendRecords, ih]

/-- R169: what a build leaves: the bodies follow those of the list, in order, and the numbers have risen. -/
theorem build_report (s : State) (rs : List Report) :
    (build s rs).report.list.map (·.body) = s.report.list.map (·.body) ++ rs ∧
    (build s rs).report.seq = s.report.seq + BitVec.ofNat 32 rs.length ∧
    (build s rs).report.list.length = s.report.list.length + rs.length := by
  refine ⟨appendRecords_map _ _, appendRecords_seq _ _, ?_⟩
  have h := congrArg List.length (appendRecords_map s.report rs)
  simpa [build] using h

/-! ### The binding map and the free contexts -/

/-- R41: a context found for a pair is bound to it. -/
theorem boundTo_of_lookup {s : State} {w : WinId} {bay : Nat} {c : CtxId} (h : lookup s w bay = some c) :
    boundTo w bay (getCtx s c) = true := by
  simpa using List.find?_some h

/-- R43: the context that a binding takes is FREE. -/
theorem free_of_lowestFree {s : State} {c : CtxId} (h : lowestFree s = some c) : (getCtx s c).state = .free := by
  simpa using List.find?_some h

/-- R43: no context of a lower number is FREE. -/
theorem lowestFree_none {s : State} (h : lowestFree s = none) (c : CtxId) : (getCtx s c).state ≠ .free := by
  have := List.find?_eq_none.mp h c (List.mem_finRange c)
  simpa using this

/-- R90: an occasion at which the four conditions do not hold changes nothing. -/
theorem verdictOccasion_of_not_due {s : State} {c : CtxId} (h : verdictDue (getCtx s c) = false) :
    verdictOccasion s c = s := by
  simp [verdictOccasion, h]

/-- R60: a tracking failure reaches a COLLECTING context alone. -/
theorem loseTransfer_of_not_collecting {s : State} {c : CtxId} {x : Cause} (h : (getCtx s c).state ≠ .collecting) :
    loseTransfer s c x = s := by
  simp [loseTransfer, h]

/-! ### The close of an event -/

/-- R171: no record leaves where the list is empty or its front may not leave. -/
theorem drain_of_quiet {s : State} (h : mayLeave s = true → s.report.list = []) : drain s = s := by
  unfold drain
  split
  · rfl
  · rename_i heq
    split
    · rename_i hm
      rw [h hm] at heq
      cases heq
    · rfl

/-- R173: ATTN that already stands as it should is not changed by its evaluation. -/
theorem evalAttn_of_level {s : State} (h : s.engine.attn = attnLevel s) : evalAttn s = s := by
  simp [evalAttn, ← h]

/-- The close of an event changes nothing where no record may leave, ATTN stands as it should, and the Order Unit has
not become able. -/
theorem settle_of_quiet {b s : State} (h1 : mayLeave s = true → s.report.list = [])
    (h2 : s.engine.attn = attnLevel s) (h3 : able s = true → able b = true) : settle b s = s := by
  unfold settle
  rw [drain_of_quiet h1, evalAttn_of_level h2]
  unfold noteAble
  split
  · rename_i h
    simp only [Bool.and_eq_true, Bool.not_eq_true'] at h
    rw [h3 h.2] at h
    cases h.1
  · rfl

/-- R170: where nothing is owed, nothing is granted. -/
theorem firstOwed_none {s : State} (h : anyOwed s = false) (hw : s.orders.waitingDone = none) :
    firstOwed s = none := by
  simp only [anyOwed, Bool.or_eq_false_iff] at h
  obtain ⟨⟨h1, h2⟩, h3⟩ := h
  have hwin : allWins.findSome? (owedOfWindow s) = none := by
    rw [List.findSome?_eq_none_iff]
    intro w _
    have : ((getWin s w).owedApplied || (getWin s w).owedFenced) = false := by
      have := List.any_eq_false.mp h1 (getWin s w) (by simp [getWin])
      simpa using this
    simp only [Bool.or_eq_false_iff] at this
    simp [owedOfWindow, this.1, this.2]
  have hctx : (allCtxs.find? fun c => decide (0 < (getCtx s c).owed)) = none := by
    rw [List.find?_eq_none]
    intro c _
    have := List.any_eq_false.mp h2 (getCtx s c) (by simp [getCtx])
    simpa using this
  have hsw : s.sweeper.waiting = [] := by simpa using h3
  simp [firstOwed, hwin, hctx, hsw, hw]

theorem grantRoom_of_nothing {s : State} (h : firstOwed s = none) (n : Nat) : grantRoom n s = s := by
  cases n with
  | zero => rfl
  | succ n => simp [grantRoom, h]


end Sys2Proof.Machine
end

