-- ==== Sys2Proof/Laws/Events.lean ====
section
/-! SUPPORT. What the marks of a delivered tick are after each update, what an aging event can do, and what an arrival
can do. -/

namespace Sys2Proof.Machine

/-! ### The marks of a delivered tick (R142, log entry 8) -/

/-- The marks depend on the Time Base alone. -/
theorem ctxDue_congr {s t : State} (h : t.time = s.time) (c : CtxId) : ctxDue t c = ctxDue s c := by
  simp [ctxDue, h]

theorem readDue_congr {s t : State} (h : t.time = s.time) (l : LaneId) : readDue t l = readDue s l := by
  simp [readDue, h]

/-- A delivered tick marks the contexts with a count. -/
@[simp] theorem ctxDue_delivered (s : State) (c : CtxId) : ctxDue (deliverTick s) c = (getCtx s c).state.ages := by
  simp [ctxDue, deliverTick, getCtx]

/-- A delivered tick marks the held reads. -/
@[simp] theorem readDue_delivered (s : State) (l : LaneId) : readDue (deliverTick s) l = (getFence s l).isSome := by
  simp [readDue, deliverTick, getFence]

theorem ctxDue_ageTaken (s : State) (c k : CtxId) : ctxDue (ageTaken s c) k = if c = k then false else ctxDue s k := by
  simp [ctxDue, ageTaken, Vector.getElem_set, Fin.ext_iff]

@[simp] theorem ctxDue_ageTaken_self (s : State) (c : CtxId) : ctxDue (ageTaken s c) c = false := by
  simp [ctxDue_ageTaken]

theorem readDue_readTaken (s : State) (l k : LaneId) :
    readDue (readTaken s l) k = if l = k then false else readDue s k := by
  simp [readDue, readTaken, Vector.getElem_set, Fin.ext_iff]

@[simp] theorem readDue_readTaken_self (s : State) (l : LaneId) : readDue (readTaken s l) l = false := by
  simp [readDue_readTaken]

/-- A context's mark is taken from the Time Base alone. -/
theorem ageTaken_eq (s : State) (c : CtxId) :
    ageTaken s c = { s with time := { s.time with ctxDue := s.time.ctxDue.set c.val false c.isLt } } := rfl

/-- A held read's mark is taken from the Time Base alone. -/
theorem readTaken_eq (s : State) (l : LaneId) :
    readTaken s l = { s with time := { s.time with readDue := s.time.readDue.set l.val false l.isLt } } := rfl

/-- A tick is delivered, or nothing changes (R142). -/
theorem execTick_cases {s t : State} (h : execTick s = .next t) :
    (s.time.running = true ∧ 0 < s.time.ticksDue ∧ tickUnfinished s = false ∧ t = deliverTick s) ∨ t = s := by
  unfold execTick at h
  split at h
  · rename_i g
    exact .inl ⟨g.1, g.2.1, g.2.2, by cases h; rfl⟩
  · exact .inr (by cases h; rfl)

/-- A read held by a head event has no event left at a tick delivered before it (R134, R144). -/
@[simp] theorem readDue_holdRead (s : State) (l : LaneId) (r : Request) (t : Touch) (c : CtxId) :
    readDue (holdRead s l r t c) l = false := by
  have h : (holdRead s l r t c).time = (readTaken s l).time := by simp [holdRead, readTaken]
  rw [readDue_congr h, readDue_readTaken_self]

/-! ### An aging event (R146, R148, R150) -/

/-- A context's idle count is lowered, or ends, or there is none. -/
theorem ageIdle_cases (s : State) (c : CtxId) :
    (∃ n : Nat, (getCtx s c).idle = some (n + 2) ∧ ageIdle s c = modCtx s c fun x => { x with idle := some (n + 1) }) ∨
      (∃ n : Nat, (getCtx s c).idle = some n ∧ n ≤ 1 ∧
        ageIdle s c = settle s (enterFinal s c { state := .expired, cause := .idle })) ∨
      ((getCtx s c).idle = none ∧ ageIdle s c = s) := by
  unfold ageIdle
  split
  · rename_i n h; exact .inl ⟨n, h, rfl⟩
  · rename_i h; exact .inr (.inl ⟨1, h, by decide, rfl⟩)
  · rename_i h; exact .inr (.inl ⟨0, h, by decide, rfl⟩)
  · rename_i h; exact .inr (.inr ⟨h, rfl⟩)

/-- A context's guard count is lowered, or ends, or there is none. -/
theorem ageGuard_cases (s : State) (c : CtxId) :
    (∃ n : Nat, (getCtx s c).guardCount = some (n + 2) ∧
        ageGuard s c = modCtx s c fun x => { x with guardCount := some (n + 1) }) ∨
      (∃ n : Nat, (getCtx s c).guardCount = some n ∧ n ≤ 1 ∧ ageGuard s c = settle s (returnToFree s c)) ∨
      ((getCtx s c).guardCount = none ∧ ageGuard s c = s) := by
  unfold ageGuard
  split
  · rename_i n h; exact .inl ⟨n, h, rfl⟩
  · rename_i h; exact .inr (.inl ⟨1, h, by decide, rfl⟩)
  · rename_i h; exact .inr (.inl ⟨0, h, by decide, rfl⟩)
  · rename_i h; exact .inr (.inr ⟨h, rfl⟩)

/-- The snapshot countdown is lowered, or loaded again with a snapshot requested, or there is none. -/
theorem ageCountdown_cases (s : State) :
    (∃ n : Nat, s.time.countdown = some (n + 2) ∧
        ageCountdown s = modTime s fun t => { t with countdown := some (n + 1) }) ∨
      (∃ n : Nat, s.time.countdown = some n ∧ n ≤ 1 ∧
        ageCountdown s = requestSnapshot (modTime s fun t => { t with countdown := some t.period })) ∨
      (s.time.countdown = none ∧ ageCountdown s = s) := by
  unfold ageCountdown
  split
  · rename_i n h; exact .inl ⟨n, h, rfl⟩
  · rename_i h; exact .inr (.inl ⟨1, h, by decide, rfl⟩)
  · rename_i h; exact .inr (.inl ⟨0, h, by decide, rfl⟩)
  · rename_i h; exact .inr (.inr ⟨h, rfl⟩)

/-! ### An arrival (R116, R117) -/

/-- A request accepted onto its lane becomes its head, or joins its backlog, which may move up first, or stalls the
link. -/
theorem acceptOnto_cases (s : State) (r : Request) :
    let x := getLane s r.lane
    (x.head = none ∧ x.backlog = [] ∧
        acceptOnto s r = setLane s r.lane { x with head := some { req := r, standing := .fresh } }) ∨
      (x.backlog.length < Config.backlogMax ∧ acceptOnto s r = setLane s r.lane (appendBacklog x r)) ∨
      (x.head = none ∧ Config.backlogMax ≤ x.backlog.length ∧
        acceptOnto s r = setLane s r.lane (appendBacklog (moveUp x) r)) ∨
      (x.head.isSome = true ∧ Config.backlogMax ≤ x.backlog.length ∧
        acceptOnto s r =
          modCounters { s with stall := some { lane := r.lane, waiting := r } } fun c =>
            { c with upstreamStalls := raise c.upstreamStalls 1 }) := by
  intro x
  unfold acceptOnto
  dsimp only
  split
  · rename_i hh
    split
    · rename_i he
      exact .inl ⟨hh, List.isEmpty_iff.mp he, rfl⟩
    · split
      · rename_i hb
        exact .inr (.inl ⟨hb, rfl⟩)
      · rename_i hb
        exact .inr (.inr (.inl ⟨hh, Nat.le_of_not_lt hb, rfl⟩))
  · rename_i h hh
    split
    · rename_i hb
      exact .inr (.inl ⟨hb, rfl⟩)
    · rename_i hb
      exact .inr (.inr (.inr ⟨by simp [x, hh], Nat.le_of_not_lt hb, rfl⟩))

/-- The head event of a head that awaits one is its treatment (R118, R121). -/
theorem execHeadEvent_of_awaiting {s : State} {l : LaneId} {r : Request}
    (h : (getLane s l).head = some { req := r, standing := .fresh } ∨
      (getLane s l).head = some { req := r, standing := .released }) :
    execHeadEvent l s = .next (headTreated s l r) := by
  unfold execHeadEvent
  rcases h with h | h <;> simp [h]

/-- Before a full backlog a head that awaits its first event is treated, and the arrival then meets what is left. -/
theorem acceptRunning_of_fresh {s : State} {q r : Request}
    (h : (getLane s r.lane).head = some { req := q, standing := .fresh })
    (hb : Config.backlogMax ≤ (getLane s r.lane).backlog.length) :
    acceptRunning s r = acceptOnto (settle s (treatHead s r.lane q)) r := by
  simp [acceptRunning, h, Nat.not_lt_of_le hb]

end Sys2Proof.Machine
end

