-- ==== Sys2Proof/Laws/Shadow.lean ====
section
/-! SUPPORT. The shadow's memory operations: each keeps the canonical form, and what each leaves to be read. -/

namespace Sys2Proof.Machine

/-- Every listed offset lies above this one. -/
def ListedAbove (a : Nat) (m : List Host.Cell) : Prop := ∀ c ∈ m, a < c.1

theorem shadowWf_cons (a : Nat) (b : Byte) (m : List Host.Cell) :
    shadowWf ((a, b) :: m) = true ↔ b ≠ 0 ∧ ListedAbove a m ∧ shadowWf m = true := by
  induction m generalizing a b with
  | nil => simp [shadowWf, ListedAbove]
  | cons x rest ih =>
    obtain ⟨a', b'⟩ := x
    have h := ih a' b'
    simp only [shadowWf, Bool.and_eq_true, decide_eq_true_eq, h]
    constructor
    · rintro ⟨⟨hb, haa⟩, h2⟩
      refine ⟨hb, ?_, h2⟩
      intro c hc
      rcases List.mem_cons.mp hc with rfl | hc
      · exact haa
      · exact Nat.lt_trans haa (h2.2.1 c hc)
    · rintro ⟨hb, ha, h2⟩
      exact ⟨⟨hb, ha _ (List.mem_cons_self)⟩, h2⟩

theorem readByte_of_listedAbove {a x : Nat} {m : List Host.Cell} (h : ListedAbove a m) (hx : x ≤ a) :
    readByte m x = 0 := by
  induction m with
  | nil => rfl
  | cons y rest ih =>
    obtain ⟨a', b'⟩ := y
    have h1 : a < a' := h _ (List.mem_cons_self)
    have h2 : ListedAbove a rest := fun c hc => h c (List.mem_cons_of_mem _ hc)
    rw [readByte, if_neg (by omega), ih h2]

theorem listedAbove_writeByte {a x : Nat} {m : List Host.Cell} (v : Byte) (h : ListedAbove a m) (hx : a < x) :
    ListedAbove a (writeByte m x v) := by
  induction m with
  | nil => intro c hc; simp only [writeByte] at hc; split at hc <;> simp_all
  | cons y rest ih =>
    obtain ⟨a', b'⟩ := y
    have h1 : a < a' := h _ (List.mem_cons_self)
    have h2 : ListedAbove a rest := fun c hc => h c (List.mem_cons_of_mem _ hc)
    intro c hc
    simp only [writeByte] at hc
    split at hc
    · split at hc
      · exact h c hc
      · rcases List.mem_cons.mp hc with rfl | hc
        · exact hx
        · exact h c hc
    · split at hc
      · split at hc
        · exact h2 c hc
        · rcases List.mem_cons.mp hc with rfl | hc
          · exact hx
          · exact h2 c hc
      · rcases List.mem_cons.mp hc with rfl | hc
        · exact h1
        · exact ih h2 c hc

/-- A write keeps the canonical form. -/
theorem writeByte_wf {m : List Host.Cell} (x : Nat) (v : Byte) (h : shadowWf m = true) :
    shadowWf (writeByte m x v) = true := by
  induction m with
  | nil => simp only [writeByte]; split <;> simp_all [shadowWf]
  | cons y rest ih =>
    obtain ⟨a, b⟩ := y
    obtain ⟨hb, ha, hr⟩ := (shadowWf_cons a b rest).mp h
    simp only [writeByte]
    split
    · split
      · exact h
      · rename_i hx hv
        refine (shadowWf_cons _ _ _).mpr ⟨hv, ?_, h⟩
        intro c hc
        rcases List.mem_cons.mp hc with rfl | hc
        · exact hx
        · exact Nat.lt_trans hx (ha c hc)
    · split
      · rename_i _ hx
        subst hx
        split
        · exact hr
        · rename_i hv
          exact (shadowWf_cons _ _ _).mpr ⟨hv, ha, hr⟩
      · exact (shadowWf_cons _ _ _).mpr ⟨hb, listedAbove_writeByte v ha (by omega), ih hr⟩

/-- A read after a write of a canonical shadow. -/
theorem readByte_writeByte {m : List Host.Cell} (x y : Nat) (v : Byte) (h : shadowWf m = true) :
    readByte (writeByte m x v) y = if x = y then v else readByte m y := by
  induction m with
  | nil =>
    rw [writeByte]
    split
    · rename_i hv; simp [readByte, hv]
    · simp [readByte]
  | cons z rest ih =>
    obtain ⟨a, b⟩ := z
    obtain ⟨-, ha, hr⟩ := (shadowWf_cons a b rest).mp h
    simp only [writeByte]
    by_cases h1 : x < a
    · rw [if_pos h1]
      by_cases hv : v = 0
      · rw [if_pos hv]
        by_cases hx : x = y
        · subst hx
          rw [if_pos rfl, readByte, if_neg (by omega), hv]
          exact readByte_of_listedAbove ha (by omega)
        · rw [if_neg hx]
      · rw [if_neg hv, readByte]
    · rw [if_neg h1]
      by_cases h2 : x = a
      · subst h2
        rw [if_pos rfl]
        by_cases hv : v = 0
        · rw [if_pos hv]
          by_cases hx : x = y
          · subst hx
            rw [if_pos rfl, hv]
            exact readByte_of_listedAbove ha (Nat.le_refl _)
          · rw [if_neg hx, readByte, if_neg hx]
        · rw [if_neg hv, readByte]
          by_cases hx : x = y
          · rw [if_pos hx, if_pos hx]
          · rw [if_neg hx, if_neg hx, readByte, if_neg hx]
      · rw [if_neg h2, readByte, ih hr]
        by_cases hx : x = y
        · subst hx
          rw [if_neg (fun e => h2 e.symm), if_pos rfl, if_pos rfl]
        · rw [if_neg hx, if_neg hx, readByte]

theorem mem_writeByte {m : List Host.Cell} {x : Nat} {v : Byte} {c : Host.Cell} (h : c ∈ writeByte m x v) :
    c ∈ m ∨ c.1 = x := by
  induction m with
  | nil => simp only [writeByte] at h; split at h <;> simp_all
  | cons z rest ih =>
    obtain ⟨a, b⟩ := z
    simp only [writeByte] at h
    split at h
    · split at h
      · exact .inl h
      · rcases List.mem_cons.mp h with rfl | h
        · exact .inr rfl
        · exact .inl h
    · split at h
      · split at h
        · exact .inl (List.mem_cons_of_mem _ h)
        · rcases List.mem_cons.mp h with rfl | h
          · exact .inr rfl
          · exact .inl (List.mem_cons_of_mem _ h)
      · rcases List.mem_cons.mp h with rfl | h
        · exact .inl (List.mem_cons_self)
        · rcases ih h with h | h
          · exact .inl (List.mem_cons_of_mem _ h)
          · exact .inr h

/-- The copy of a write's bytes keeps the canonical form. -/
theorem copyBytes_wf (data : List Byte) {m : List Host.Cell} (off : Nat) (h : shadowWf m = true) :
    shadowWf (copyBytes m off data) = true := by
  induction data generalizing m off with
  | nil => exact h
  | cons b rest ih =>
    rw [copyBytes]
    refine ih (off + 1) ?_
    split
    · exact writeByte_wf off b h
    · exact h

/-- The copy lists bytes of software-owned areas alone. -/
theorem copyBytes_owned (data : List Byte) {m : List Host.Cell} (off : Nat)
    (h : ∀ c ∈ m, softwareOwned c.1 = true) : ∀ c ∈ copyBytes m off data, softwareOwned c.1 = true := by
  induction data generalizing m off with
  | nil => exact h
  | cons b rest ih =>
    rw [copyBytes]
    refine ih (off + 1) ?_
    split
    · rename_i ho
      intro c hc
      rcases mem_writeByte hc with hc | hc
      · exact h c hc
      · rw [hc]; exact ho
    · exact h

/-- What the copy leaves to be read: the copied byte where software owns the offset, the byte before otherwise. -/
theorem readByte_copyBytes (data : List Byte) {m : List Host.Cell} (off y : Nat) (h : shadowWf m = true) :
    readByte (copyBytes m off data) y =
      if softwareOwned y = true ∧ off ≤ y ∧ y < off + data.length then data.getD (y - off) 0 else readByte m y := by
  induction data generalizing m off with
  | nil => rw [copyBytes, if_neg (by simp only [List.length_nil]; omega)]
  | cons b rest ih =>
    rw [copyBytes]
    have hwf : shadowWf (if softwareOwned off = true then writeByte m off b else m) = true := by
      split
      · exact writeByte_wf off b h
      · exact h
    rw [ih (off + 1) hwf]
    by_cases hy : off = y
    · subst hy
      rw [if_neg (by omega)]
      by_cases ho : softwareOwned off = true
      · rw [if_pos ho, readByte_writeByte _ _ _ h, if_pos rfl,
          if_pos ⟨ho, Nat.le_refl _, by simp only [List.length_cons]; omega⟩]
        simp
      · rw [if_neg ho, if_neg (fun e => ho e.1)]
    · by_cases hc : softwareOwned y = true ∧ off + 1 ≤ y ∧ y < off + 1 + rest.length
      · rw [if_pos hc, if_pos ⟨hc.1, by omega, by simp only [List.length_cons]; omega⟩]
        obtain ⟨k, hk⟩ : ∃ k, y - off = k + 1 := ⟨y - off - 1, by omega⟩
        rw [hk, show y - (off + 1) = k by omega]
        simp
      · rw [if_neg hc]
        have hn : ¬(softwareOwned y = true ∧ off ≤ y ∧ y < off + (b :: rest).length) := fun e =>
          hc ⟨e.1, by have := e.2.1; omega, by have := e.2.2; simp only [List.length_cons] at this; omega⟩
        rw [if_neg hn]
        split
        · rw [readByte_writeByte _ _ _ h, if_neg hy]
        · rfl

/-- Dropping listed bytes keeps the canonical form. -/
theorem filter_wf (q : Host.Cell → Bool) {m : List Host.Cell} (h : shadowWf m = true) :
    shadowWf (m.filter q) = true := by
  induction m with
  | nil => rfl
  | cons z rest ih =>
    obtain ⟨a, b⟩ := z
    obtain ⟨hb, ha, hr⟩ := (shadowWf_cons a b rest).mp h
    rw [List.filter_cons]
    split
    · exact (shadowWf_cons _ _ _).mpr ⟨hb, fun c hc => ha c (List.mem_filter.mp hc).1, ih hr⟩
    · exact ih hr

/-- What dropping the bytes of some offsets leaves to be read. -/
theorem readByte_filter (q : Nat → Bool) {m : List Host.Cell} (y : Nat) (h : shadowWf m = true) :
    readByte (m.filter fun c => q c.1) y = if q y = true then readByte m y else 0 := by
  induction m with
  | nil => simp [readByte]
  | cons z rest ih =>
    obtain ⟨a, b⟩ := z
    obtain ⟨-, ha, hr⟩ := (shadowWf_cons a b rest).mp h
    rw [List.filter_cons]
    by_cases hq : q a = true
    · rw [if_pos hq, readByte, readByte, ih hr]
      by_cases hy : a = y
      · subst hy; simp [hq]
      · simp [hy]
    · rw [if_neg hq, ih hr, readByte]
      by_cases hy : a = y
      · subst hy; simp [hq]
      · simp [hy]

/-- Two canonical shadows with the same bytes are the same data. -/
theorem shadow_ext {m n : List Host.Cell} (hm : shadowWf m = true) (hn : shadowWf n = true)
    (h : ∀ x, readByte m x = readByte n x) : m = n := by
  induction m generalizing n with
  | nil =>
    cases n with
    | nil => rfl
    | cons z rest =>
      obtain ⟨a, b⟩ := z
      have := h a
      simp [readByte] at this
      exact absurd this.symm ((shadowWf_cons a b rest).mp hn).1
  | cons z rest ih =>
    obtain ⟨a, b⟩ := z
    obtain ⟨hb, ha, hr⟩ := (shadowWf_cons a b rest).mp hm
    cases n with
    | nil =>
      have := h a
      simp [readByte] at this
      exact absurd this hb
    | cons z' rest' =>
      obtain ⟨a', b'⟩ := z'
      obtain ⟨hb', ha', hr'⟩ := (shadowWf_cons a' b' rest').mp hn
      have hab : a = a' := by
        rcases Nat.lt_trichotomy a a' with hlt | heq | hgt
        · have := h a
          rw [readByte, if_pos rfl, readByte, if_neg (by omega),
            readByte_of_listedAbove ha' (by omega)] at this
          exact absurd this hb
        · exact heq
        · have := h a'
          rw [readByte, if_neg (by omega), readByte_of_listedAbove ha (by omega), readByte, if_pos rfl] at this
          exact absurd this.symm hb'
      subst hab
      have hbb : b = b' := by simpa [readByte] using h a
      subst hbb
      rw [ih hr hr' (fun x => by
        by_cases hx : x ≤ a
        · rw [readByte_of_listedAbove ha hx, readByte_of_listedAbove ha' hx]
        · have := h x
          rw [readByte, if_neg (by omega), readByte, if_neg (by omega)] at this
          exact this)]

/-- The start-up load's zeroing of the order ring and the consumer count keeps the canonical form. -/
theorem beginClears_shadow_wf (s : State) (h : shadowWf s.orders.shadow = true) :
    shadowWf (beginClears s).orders.shadow = true :=
  filter_wf _ h

/-- The shadow after a forwarded write's copy. -/
theorem copyToShadow_shadow (s : State) (r : Request) :
    (copyToShadow s r).orders.shadow =
      copyBytes s.orders.shadow (r.addr.toNat - pageBase s)
        ((r.data.drop (pageBase s - r.addr.toNat)).take
          (Config.pageSize - (r.addr.toNat - pageBase s))) := by
  simp only [copyToShadow, apply_ite State.orders, modReport_orders, modOrders_orders, ite_self]

/-- A forwarded write's copy keeps the canonical form. -/
theorem copyToShadow_wf (s : State) (r : Request) (h : shadowWf s.orders.shadow = true) :
    shadowWf (copyToShadow s r).orders.shadow = true := by
  rw [copyToShadow_shadow]
  exact copyBytes_wf _ _ h

/-- The shadow after pin reset is canonical. -/
theorem reset_shadow_wf : shadowWf State.reset.orders.shadow = true := by
  simp only [State.reset, shadowWf]

end Sys2Proof.Machine
end

