-- ==== Sys2Proof/Tests/Slice0.lean ====
section
/-! SUPPORT. Tests of the model on values of the manual's tables, and for each obligation with hypotheses a state that
meets them. -/

set_option Elab.async false

namespace Sys2Proof.Tests

open Sys2Proof Sys2Proof.Machine

/-! ### WellFormed refuses what the links cannot carry -/

def req (k : ReqKind) (l : LaneId) (a n : Nat) (d : List Byte) : Request :=
  { kind := k, addr := BitVec.ofNat 40 a, count := n, lane := l, ident := 1, data := d }

theorem test_wf_count_zero : (req .read 0 0 0 []).wf = false := by decide
theorem test_wf_count_257 : (req .read 0 0 257 []).wf = false := by decide
theorem test_wf_count_bounds : (req .read 0 0 1 []).wf = true ∧ (req .read 0 0 256 []).wf = true := by decide
theorem test_wf_read_with_data : (req .read 0 0 1 [0]).wf = false := by decide
theorem test_wf_write_short : (req .write 0 0 2 [0]).wf = false := by decide
theorem test_wf_write : (Instr.requestArrival (req .write 0 0 2 [0, 1])).wf = true := by decide
theorem test_wf_load_data : (Instr.loadReadDone 0 (List.replicate 257 0)).wf = false := by decide +kernel
theorem test_wf_reconcile_data : (Instr.reconcileReadReturn 0 (List.replicate 257 0)).wf = false := by decide +kernel
theorem test_wf_recheck_data : (Instr.recheckReadDone 0 (List.replicate 257 0)).wf = false := by decide +kernel
theorem test_wf_detached_data : (Instr.detachedReadReturn 0 (.okay (List.replicate 257 0))).wf = false := by
  decide +kernel
theorem test_wf_relay_data : (Instr.responseRelay 0 (.okay (List.replicate 257 0))).wf = false := by decide +kernel
theorem test_wf_orphan_data : (Instr.orphanResponse 0 (.okay (List.replicate 257 0))).wf = false := by decide +kernel
theorem test_arrival_ill_formed : exec (.requestArrival (req .write 0 0 2 [0])) State.reset = .refused .illFormedRequest :=
  rfl

/-! ### The check (chapter 1): the table of R2, the keys of R4 -/

theorem test_reduce_table :
    reduce (2 ^ 61 + 5) = 6 ∧ reduce P = 0 ∧ reduce (2 ^ 80) = 524288 ∧ reduce ((P - 1) ^ 2) = 1 ∧
      reduce (P * (P - 1)) = 0 ∧ reduce (P - 10 + 25) = 15 ∧ reduce (2 ^ 64 - 1) = 7 := by decide +kernel

theorem test_weak_keys :
    weakKey (reduce (2 ^ 61)) = true ∧ weakKey (reduce (2 * P - 1)) = true ∧ weakKey (reduce (2 ^ 62)) = false ∧
      weakKey (reduce (2 ^ 64 - 2)) = false := by decide +kernel

theorem test_contribution : contribution (ladderOf 3) 2 [1, 2] = 9 + 2 * 27 := by decide +kernel

/-! ### Extent lists: the tables of R69 and R70 -/

def list0 : List Extent := [⟨100, 200⟩, ⟨300, 400⟩]

theorem test_division_rows :
    (divide list0 none 150 200).fresh = [⟨200, 300⟩] ∧
      (divide list0 none 150 200).overlap = [⟨150, 200⟩, ⟨300, 350⟩] ∧
      (divide list0 none 120 60).fresh = [] ∧ (divide list0 none 80 40).fresh = [⟨80, 100⟩] ∧
      (divide [⟨0, 300⟩] (some 350) 290 110).stray = 50 ∧ (divide [⟨0, 300⟩] (some 350) 350 100).stray = 100 := by
  decide +kernel

theorem test_insertion_rows :
    insertRange 500 600 list0 = [⟨100, 200⟩, ⟨300, 400⟩, ⟨500, 600⟩] ∧
      insertRange 200 250 list0 = [⟨100, 250⟩, ⟨300, 400⟩] ∧
      insertRange 250 300 list0 = [⟨100, 200⟩, ⟨250, 400⟩] ∧ insertRange 200 300 list0 = [⟨100, 400⟩] := by
  decide +kernel

/-! ### Small states -/

def def0 : WinDef :=
  { base := 0x100000, s := 16, count := 2, autoOpen := true, defaultKey := 3, overlap := .reconcile,
    readPolicy := .fence, order := .little, budget := 4, idleLimit := 5, holdLimit := 6, guardTicks := 7,
    threshold := 0, isolate := true }

/-- RUNNING, with this definition in force in window 0. -/
def running (d : WinDef) : State :=
  { State.reset with
    engine := { State.reset.engine with state := .running, cpb := 1 }
    time := { State.reset.time with running := true }
    windows := State.reset.windows.set 0 { Window.initial with state := .active, defn := some d } }

def binding0 : Binding := { number := 1, win := 0, bay := 0, key := 3 }

def ctx0 (st : CtxState) : Context :=
  { Context.free with state := st, binding := some binding0, ladder := some (ladderOf 3), idle := some 5 }

/-- With context 0 bound to bay 0 of window 0. -/
def withCtx (s : State) (c : Context) : State :=
  { setCtx s 0 c with windows := s.windows.set 0 { getWin s 0 with bound := 1 } }

/-- With a head at a lane. -/
def withHead (s : State) (l : LaneId) (r : Request) (h : Option HoldReason) : State :=
  setLane s l { head := some { req := r, standing := h.elim .fresh .held }, backlog := [] }

/-- With an issued request of number 0. -/
def withIssued (s : State) (m : MemReq) : State :=
  { s with port := { s.port with outstanding := [{ id := 0, req := m }], nextId := 1 } }

def issued (o : Owner) (k : ReqKind) (n : Nat) : MemReq := { kind := k, addr := 0, count := n, data := [], owner := o }

/-- With these bytes in the first slot of the order ring, and an examination due. -/
def withOrder (s : State) (b : List Byte) : State :=
  { s with orders := { s.orders with shadow := copyBytes s.orders.shadow 0x800 b, examDue := true } }

/-- The first 8 bytes of an order of lap 1 for window `w` and bay 0, and its body. -/
def orderOf (code w mode : Byte) (body : List Byte) : List Byte := [code, 1, 0, 0, w, mode, 0, 0] ++ body

def base : State := running def0

/-- The payload byte at an offset of bay 0. -/
def payAddr (off : Nat) : Nat := 0x100000 + off

def pw (l : LaneId) : Request := req .write l 0x100000 2 [7, 9]

def touch0 (lo hi : Nat) (d : WinDef) : Touch := { win := 0, bay := 0, lo := lo, hi := hi, d := d }

/-! ### The 256 contexts of a small state, without walking them -/

theorem getCtx_all {s : State} {x : Context} (h : s.ctxs = Vector.replicate 256 x) (c : CtxId) : getCtx s c = x := by
  simp [getCtx, h]

theorem getCtx_one {s : State} {x : Context} (h : s.ctxs = (Vector.replicate 256 Context.free).set 0 x (by decide))
    (c : CtxId) : getCtx s c = if c = 0 then x else Context.free := by
  simp only [getCtx, h, Vector.getElem_set, Vector.getElem_replicate]
  by_cases hc : c = 0
  · simp [hc]
  · have : c.val ≠ 0 := fun e => hc (Fin.ext e)
    rw [if_neg hc, if_neg (fun e => this e.symm)]

theorem accumulators_of_one {s : State} {x : Context}
    (h : s.ctxs = (Vector.replicate 256 Context.free).set 0 x (by decide)) (h1 : x.acc < P) (h2 : x.state ≠ .free)
    (h3 : x.owed = 0) : AccumulatorInv s := by
  intro c
  rw [getCtx_one h]
  split
  · exact ⟨h1, fun e => absurd e h2, fun _ => h3⟩
  · exact ⟨by decide, fun _ => rfl, fun _ => rfl⟩

theorem accumulators_of_all {s : State} {x : Context} (h : s.ctxs = Vector.replicate 256 x) (h1 : x.acc < P)
    (h2 : x.state = .free → x = Context.free) (h3 : x.owed = 0) : AccumulatorInv s := by
  intro c
  rw [getCtx_all h]
  exact ⟨h1, h2, fun _ => h3⟩

theorem lookup_of_all {s : State} {x : Context} {w : WinId} {bay : Nat} (h : s.ctxs = Vector.replicate 256 x)
    (hx : boundTo w bay x = false) : lookup s w bay = none := by
  simp [lookup, getCtx_all h, hx]

theorem lowestFree_of_all {s : State} {x : Context} (h : s.ctxs = Vector.replicate 256 x) (hx : x.state ≠ .free) :
    lowestFree s = none := by
  simp [lowestFree, getCtx_all h, hx]

/-! ### Commands on small states -/

theorem test_classes :
    classify base (pw 0) = .payload (touch0 0 2 def0) ∧
      classify base (req .read 0 (0x100000 + 65472) 64 []) = .trailer (touch0 65472 65536 def0) ∧
      classify base (req .read 0 (0x100000 + 65471) 2 []) = .both (touch0 65471 65473 def0) ∧
      classify base (req .read 0 0x0FFFFF 1 []) = .outside ∧
      classify base (req .read 0 4294967296 4 []) = .control := by decide +kernel

/-! ### What the hypotheses of each obligation admit: a state for every clause -/

def booting (left : LoadPhase) (o : Owner) (k : ReqKind) (n : Nat) : State :=
  { withIssued State.reset (issued o k n) with
    engine := { State.reset.engine with state := .loading, cpb := 1, load := left } }

theorem meets_MicrosecondsAndIdleSteps :
    ({ base.time with interval := 2 }.micros + 1 < 2 ∧ base.time.interval ≤ base.time.micros + 1) ∧
      base.time.running = true ∧ State.reset.time.running = false ∧ base.pending = [] ∧ base.time.prescaler < 99 ∧
      { base.time with prescaler := 99 }.prescaler = 99 := by decide

theorem meets_ResetReleaseSamplesStraps : State.reset.engine.state = .reset := rfl

theorem meets_LoadReadFillsTheShadow :
    (∀ left, left = 1 ∨ left = 2 →
      let s := booting (.reading left) (.loadRead 0x800) .read 256
      s.engine.load = .reading left ∧ findIssued s 0 = some (issued (.loadRead 0x800) .read 256) ∧
        (List.replicate 256 (7 : Byte)).length = 256 ∧ shadowWf s.orders.shadow = true) := by
  rintro left (rfl | rfl) <;> decide +kernel

theorem meets_LastClearStartsTheEngine :
    (∀ left, left = 1 ∨ left = 2 →
      let s := booting (.clearing left) .loadClear .write 8
      s.engine.load = .clearing left ∧ findIssued s 0 = some (issued .loadClear .write 8) ∧
        s.engine.state = .loading ∧ s.report.list = [] ∧ s.report.inFlight = none ∧
        (∀ w : WinId, getWin s w = Window.initial) ∧ s.sweeper.job = none ∧ nothingOwed s = true) := by
  rintro left (rfl | rfl) <;> decide +kernel

theorem meets_EngineErrorHalts :
    findIssued (withIssued base (issued .record .write 32)) 0 = some (issued .record .write 32) ∧
      (withIssued base (issued .record .write 32)).engine.state = .running ∧
      (booting (.reading 1) (.loadRead 0) .read 256).engine.state = .loading := by decide +kernel

def lane0 (h : Option Head) (b : Nat) : State :=
  setLane base 0 { head := h, backlog := List.replicate b (pw 0) }

theorem meets_ArrivalOnALane :
    (pw 0).wf = true ∧ base.engine.state = .running ∧ base.stall = none ∧ (getLane base 0).head = none ∧
      (getLane (lane0 (some ⟨pw 0, .fresh⟩) 7) 0).backlog.length < 8 ∧
      (∀ st, st = .held .priming ∨ st = .released →
        (getLane (lane0 (some ⟨pw 0, st⟩) 8) 0).head.any (fun h => decide (h.standing ≠ .fresh)) = true ∧
          (getLane (lane0 (some ⟨pw 0, st⟩) 8) 0).backlog.length = 8) ∧
      (getLane (lane0 (some ⟨pw 0, .fresh⟩) 8) 0).head = some { req := pw 0, standing := .fresh } ∧
      (getLane (lane0 none 8) 0).head = none ∧
      (getLane (lane0 none 8) 0).backlog = pw 0 :: List.replicate 7 (pw 0) ∧
      ({ lane0 none 8 with stall := some ⟨0, pw 0⟩ } : State).stall = some ⟨0, pw 0⟩ := by
  refine ⟨by decide, rfl, rfl, by decide +kernel, by decide +kernel, ?_, by decide +kernel, by decide +kernel,
    by decide +kernel, rfl⟩
  rintro st (rfl | rfl) <;> decide +kernel

theorem meets_PassingStatesForward :
    let s := withHead { base with engine := { base.engine with state := .halted } } 0 (pw 0) none
    s.engine.state = .halted ∧ awaits s 0 (pw 0) ∧ (getLane s 0).head.isSome = true ∧
      (getLane s 0).backlog.length < 8 ∧ s.stall = none ∧ (pw 0).wf = true ∧ (getLane s 1).head = none ∧
      (getLane s 1).backlog = [] ∧ awaits (lane0 (some ⟨pw 0, .released⟩) 0) 0 (pw 0) := by
  unfold awaits
  decide +kernel

/-- The write of lane 1 that a slot of lane 0 holds meets it. -/
def held : State :=
  withHead
    (withHead
      (setSlot (withCtx base { ctx0 .collecting with extents := [⟨0, 2⟩], reconCount := 1 }) 0
        (.attached 0 { write := pw 0, offset := 0, pieces := [⟨0, 2⟩], span := ⟨0, 2⟩, standing := .issued }))
      0 (pw 0) (some .reconcile)) 1 (pw 1) none

theorem meets_ConflictHoldOrPlainForward :
    (RestInv held ∧ held.engine.state = .running ∧
      awaits held 1 (pw 1) ∧ conflicts held 1 (pw 1) = true) ∧
    (let r := req .read 0 4294967296 4 []
     let s := withHead base 0 r none
     RestInv s ∧ awaits s 0 r ∧ conflicts s 0 r = false ∧ classify s r = .control ∧ r.kind = .read) ∧
    (let r := req .write 0 0 1 [5]
     let s := withHead base 0 r none
     RestInv s ∧ awaits s 0 r ∧ conflicts s 0 r = false ∧ classify s r = .outside) := by
  unfold RestInv LoadOnlyWhileLoading awaits
  decide +kernel

theorem meets_ControlWriteCopiesItsBytes :
    let r := req .write 0 (4294967296 + 0x40) 4 [1, 0, 0, 0]
    let s := withHead base 0 r none
    RestInv s ∧ HeadDue s 0 r ∧ shadowWf s.orders.shadow = true ∧ classify s r = .control ∧ r.kind = .write ∧
      r.data.length = r.count := by
  unfold RestInv LoadOnlyWhileLoading HeadDue awaits
  decide +kernel

def collecting (d : WinDef) (c : Context) : State := withHead (withCtx (running d) c) 0 (pw 0) none

def rejecting : WinDef := { def0 with overlap := .reject }

def trusting : WinDef := { def0 with overlap := .trust }

/-- A payload write of two bytes at the front of the bay of context 0, which is COLLECTING. -/
def meetsTake (s : State) (d : WinDef) : Prop :=
  RestInv s ∧ HeadDue s 0 (pw 0) ∧ (pw 0).kind = .write ∧ classify s (pw 0) = .payload (touch0 0 2 d) ∧
    lookup s 0 0 = some 0 ∧ (getCtx s 0).state = .collecting ∧ (getCtx s 0).isolated = false ∧
    (getCtx s 0).binding = some binding0 ∧ nothingOwed s = true ∧ s.report.list.length + 4 ≤ 32

/-- A COLLECTING transfer whose taken trailer gives L = 2 and this check value. -/
def awaiting (chk : Nat) : Context :=
  { ctx0 .collecting with
    taken := some { mark := trailerMark, flags := 0, len := 2, chk := BitVec.ofNat 64 chk, objId := 0 }
    len := some 2, chk := some chk }

/-- Four extents of one byte each, from offset 4 on. -/
def fourExtents : List Extent := [⟨4, 5⟩, ⟨8, 9⟩, ⟨12, 13⟩, ⟨16, 17⟩]

theorem meets_PayloadWriteIsTaken :
    (meetsTake (collecting def0 (ctx0 .collecting)) def0 ∧ (divide [] none 0 2).overlap = [] ∧
      (divide [] none 0 2).fresh ≠ [] ∧
      insertionFits { level := 1, lowest := 1 } (ctx0 .collecting) (touch0 0 2 def0) (divide [] none 0 2)) ∧
    (meetsTake (collecting trusting { ctx0 .collecting with extents := [⟨1, 2⟩] }) trusting ∧
      (divide [⟨1, 2⟩] none 0 2).overlap ≠ [] ∧ meetCount 0 2 [⟨1, 2⟩] ≠ 0) ∧
    (meetsTake (collecting def0 { ctx0 .collecting with len := some 0 }) def0 ∧ (divide [] (some 0) 0 2).fresh = [] ∧
      (divide [] (some 0) 0 2).stray = 2) ∧
    (∀ chk, chk = 34 ∨ chk = 35 →
      let v := divide [] (some 2) 0 2
      meetsTake (collecting def0 (awaiting chk)) def0 ∧ v.overlap = [] ∧ v.fresh ≠ [] ∧ (awaiting chk).reconCount = 0 ∧
        complete (payloadTaken (awaiting chk) (touch0 0 2 def0) [7, 9] v).extents (some 2) = true ∧
        (payloadTaken (awaiting chk) (touch0 0 2 def0) [7, 9] v).acc = 34) ∧
    (let c := { ctx0 .collecting with extents := fourExtents }
     meetsTake (collecting def0 c) def0 ∧ (divide fourExtents none 0 2).overlap = [] ∧
       meetCount 0 2 fourExtents = 0 ∧ def0.budget ≤ fourExtents.length) ∧
    (let s := { collecting def0 (ctx0 .collecting) with pool := { level := 0, lowest := 0 } }
     meetsTake s def0 ∧ meetCount 0 2 [] = 0 ∧ s.pool.level = 0) ∧
    (meetsTake (collecting rejecting { ctx0 .collecting with extents := [⟨1, 2⟩] }) rejecting ∧
      rejecting.overlap = .reject) := by
  unfold meetsTake insertionFits RestInv LoadOnlyWhileLoading HeadDue awaits
  refine ⟨by decide +kernel, by decide +kernel, by decide +kernel, ?_, by decide +kernel, by decide +kernel,
    by decide +kernel⟩
  rintro chk (rfl | rfl) <;> decide +kernel

/-- A write of the bay's last payload byte and its first trailer byte. -/
def seam : Request := req .write 0 (0x100000 + 65471) 2 [5, 0xD1]

theorem meets_OverlapBeginsReconcile :
    (meetsTake (collecting def0 { ctx0 .collecting with extents := [⟨1, 2⟩] }) def0 ∧ def0.overlap = .reconcile ∧
      (divide [⟨1, 2⟩] none 0 2).overlap ≠ [] ∧ meetCount 0 2 [⟨1, 2⟩] ≠ 0) ∧
    (let s := withHead (withCtx base { ctx0 .collecting with extents := [⟨65471, 65472⟩] }) 0 seam none
     RestInv s ∧ HeadDue s 0 seam ∧ seam.kind = .write ∧ classify s seam = .both (touch0 65471 65473 def0) ∧
       lookup s 0 0 = some 0 ∧ (getCtx s 0).state = .collecting ∧ (getCtx s 0).isolated = false ∧
       (getCtx s 0).taken = none ∧
       maskFull (mergeTrailer (getCtx s 0).shadow (touch0 65471 65473 def0) seam.data) = false ∧
       (divide [⟨65471, 65472⟩] none 65471 1).overlap ≠ [] ∧ (divide [⟨65471, 65472⟩] none 65471 1).fresh = []) := by
  unfold meetsTake RestInv LoadOnlyWhileLoading HeadDue awaits
  decide +kernel

/-- With every context in use elsewhere. -/
def full : State :=
  { base with ctxs := Vector.replicate 256 { ctx0 .verified with binding := some { binding0 with bay := 1 } } }

def meetsWrite (s : State) (d : WinDef) : Prop :=
  AccumulatorInv s ∧ RestInv s ∧ HeadDue s 0 (pw 0) ∧ (pw 0).kind = .write ∧ OneBay s (pw 0) (touch0 0 2 d) ∧
    (touch0 0 2 d).significant = true

theorem meets_WritesBeforeCollecting :
    (meetsWrite (collecting def0 (ctx0 .priming)) def0 ∧ lookup (collecting def0 (ctx0 .priming)) 0 0 = some 0 ∧
      (getCtx (collecting def0 (ctx0 .priming)) 0).isolated = false) ∧
    (meetsWrite (withHead base 0 (pw 0) none) def0 ∧ lookup (withHead base 0 (pw 0) none) 0 0 = none ∧
      (getWin base 0).state = .active ∧ (getWin base 0).draining = false ∧ def0.autoOpen = true ∧
      lowestFree (withHead base 0 (pw 0) none) = some 0) ∧
    (meetsWrite (withHead full 0 (pw 0) none) def0 ∧ lookup (withHead full 0 (pw 0) none) 0 0 = none ∧
      lowestFree (withHead full 0 (pw 0) none) = none) ∧
    (let d := { def0 with autoOpen := false }
     meetsWrite (withHead (running d) 0 (pw 0) none) d ∧ lookup (withHead (running d) 0 (pw 0) none) 0 0 = none) := by
  unfold meetsWrite RestInv LoadOnlyWhileLoading HeadDue awaits OneBay
  refine ⟨⟨⟨?_, ?_⟩, ?_⟩, ⟨⟨?_, ?_⟩, ?_, ?_⟩, ⟨⟨?_, ?_⟩, ?_, ?_⟩, ⟨⟨?_, ?_⟩, ?_⟩⟩
  · exact accumulators_of_one (x := ctx0 .priming) rfl (by decide) (by decide) rfl
  · decide +kernel
  · decide +kernel
  · exact accumulators_of_all (x := Context.free) rfl (by decide) (fun _ => rfl) rfl
  · decide +kernel
  · exact lookup_of_all (x := Context.free) rfl rfl
  · decide +kernel
  · exact accumulators_of_all (x := { ctx0 .verified with binding := some { binding0 with bay := 1 } }) rfl
      (by decide) (fun e => by cases e) rfl
  · decide +kernel
  · exact lookup_of_all (x := { ctx0 .verified with binding := some { binding0 with bay := 1 } }) rfl (by decide)
  · exact lowestFree_of_all (x := { ctx0 .verified with binding := some { binding0 with bay := 1 } }) rfl (by decide)
  · exact accumulators_of_all (x := Context.free) rfl (by decide) (fun _ => rfl) rfl
  · decide +kernel
  · exact lookup_of_all (x := Context.free) rfl rfl

/-- The first 32 bytes of a little-endian trailer: the mark, flags 1, a length, a check value and object id 7. -/
def tb (len chk : Nat) : List Byte := leBytes 4 0x7E3CA5D1 ++ leBytes 4 1 ++ leBytes 8 len ++ leBytes 8 chk ++ leBytes 8 7

/-- A trailer write of its first `n` bytes. -/
def tw (len chk n : Nat) : Request := req .write 0 (0x100000 + 65472) n ((tb len chk).take n)

/-- A row-5 write: the bay's last payload byte, 5, and the 32 bytes of the trailer. -/
def tw5 (len chk : Nat) : Request := req .write 0 (0x100000 + 65471) 33 (5 :: tb len chk)

def trailing (r : Request) (c : Context) : State := withHead (withCtx base c) 0 r none

def meetsTrailer (u : Touch) (r : Request) (c : Context) : Prop :=
  let s := trailing r c
  let v := divide c.extents c.len u.lo (min u.hi u.d.capacity - u.lo)
  RestInv s ∧ HeadDue s 0 r ∧ r.kind = .write ∧ classify s r = (if u.hasPayload then .both u else .trailer u) ∧
    u.significant = true ∧ lookup s 0 0 = some 0 ∧ (getCtx s 0).state = .collecting ∧
    (getCtx s 0).isolated = false ∧ (getCtx s 0).binding = some binding0 ∧
    (u.hasPayload = true → v.overlap = [] ∧ insertionFits s.pool c u v) ∧ nothingOwed s = true ∧
    s.report.list.length + 4 ≤ 32

/-- The touch of a trailer write of `n` bytes, and that of a row-5 write. -/
def alone (n : Nat) : Touch := touch0 65472 (65472 + n) def0

def along : Touch := touch0 65471 65504 def0

def merged (r : Request) (u : Touch) : Vector (Option Byte) 32 := mergeTrailer Context.free.shadow u r.data

def decoded (r : Request) (u : Touch) : Trailer := decodeTrailer .little (shadowBytes (merged r u))

/-- A transfer with the bytes 7 and 9 accounted at offsets 0 and 1. -/
def two : Context := { ctx0 .collecting with extents := [⟨0, 2⟩], acc := 34 }

theorem meets_TrailerDecides :
    (meetsTrailer (alone 31) (tw 2 34 31) two ∧ maskFull (merged (tw 2 34 31) (alone 31)) = false) ∧
    (meetsTrailer (alone 32) (tw 1 34 32) two ∧ maskFull (merged (tw 1 34 32) (alone 32)) = true ∧
      trailerRefusal def0 two (decoded (tw 1 34 32) (alone 32)) = some .lengthShort) ∧
    (meetsTrailer (alone 32) (tw 3 34 32) two ∧ trailerRefusal def0 two (decoded (tw 3 34 32) (alone 32)) = none ∧
      complete two.extents (some 3) = false) ∧
    (meetsTrailer (alone 32) (tw 2 34 32) two ∧ trailerRefusal def0 two (decoded (tw 2 34 32) (alone 32)) = none ∧
      complete two.extents (some 2) = true ∧ two.reconCount = 0 ∧
      (decoded (tw 2 34 32) (alone 32)).chk.toNat = two.acc) ∧
    (meetsTrailer (alone 32) (tw 2 35 32) two ∧ trailerRefusal def0 two (decoded (tw 2 35 32) (alone 32)) = none ∧
      (decoded (tw 2 35 32) (alone 32)).chk.toNat ≠ two.acc) := by
  unfold meetsTrailer RestInv LoadOnlyWhileLoading HeadDue awaits insertionFits
  refine ⟨?_, ?_, ?_, ?_, ?_⟩ <;> decide +kernel

/-- The trailer of these bytes. -/
def trailerOf (len chk : Nat) : Trailer :=
  { mark := trailerMark, flags := 1, len := BitVec.ofNat 64 len, chk := BitVec.ofNat 64 chk, objId := 7 }

/-- With the trailer of these bytes taken. -/
def kept (len chk : Nat) (c : Context) : Context :=
  { c with taken := some (trailerOf len chk), len := some len, chk := some chk }

theorem decoded_tw : decoded (tw 2 34 32) (alone 32) = trailerOf 2 34 ∧ decoded (tw5 65472 34) along = trailerOf 65472 34 := by
  decide +kernel

theorem meets_TrailerDecides_further :
    (meetsTrailer along (tw5 65472 34) two ∧ along.hasPayload = true ∧
      maskFull (merged (tw5 65472 34) along) = true ∧ trailerRefusal def0 two (trailerOf 65472 34) = none) ∧
    (meetsTrailer (alone 32) (tw 2 34 32) (kept 3 34 two) ∧ (kept 3 34 two).taken ≠ some (trailerOf 2 34)) ∧
    (meetsTrailer (alone 32) (tw 2 34 32) (kept 2 34 two) ∧ (alone 32).hasPayload = false) ∧
    (let c := kept 65472 34 { two with extents := [⟨0, 65471⟩] }
     meetsTrailer along (tw5 65472 34) c ∧ (divide c.extents c.len 65471 1).fresh ≠ [] ∧
       complete (insertRange 65471 65472 c.extents) c.len = true ∧ c.reconCount = 0) := by
  unfold meetsTrailer RestInv LoadOnlyWhileLoading HeadDue awaits insertionFits
  refine ⟨⟨⟨by decide +kernel, ⟨rfl, .inl (by decide +kernel), by decide +kernel⟩, by decide +kernel⟩, by decide +kernel⟩,
    by decide +kernel, by decide +kernel,
    ⟨⟨by decide +kernel, ⟨rfl, .inl (by decide +kernel), by decide +kernel⟩, by decide +kernel⟩, by decide +kernel⟩⟩

/-- With `n` records in the pending list and one in flight. -/
def withRecords (s : State) (n : Nat) : State :=
  { s with report := { s.report with
    list := List.replicate n { seq := 0, body := .windowFenced 0 0 }
    inFlight := some { seq := 0, body := .windowFenced 0 0 } } }

/-- A write of one bay, with nothing but a state of its transfer asked. -/
def meetsLate (s : State) (r : Request) (u : Touch) (st : CtxState) : Prop :=
  RestInv s ∧ HeadDue s 0 r ∧ r.kind = .write ∧ OneBay s r u ∧ lookup s 0 0 = some 0 ∧ (getCtx s 0).state = st ∧
    (getCtx s 0).isolated = false ∧ (getCtx s 0).binding = some binding0 ∧ s.sweeper.visit = none

theorem meets_PayloadWriteTaints :
    (∀ n, n = 29 ∨ n = 30 →
      let s := withRecords (collecting def0 (ctx0 .verified)) n
      meetsLate s (pw 0) (touch0 0 2 def0) .verified ∧ nothingOwed s = true ∧ (touch0 0 2 def0).significant = true ∧
        (n = 29 → s.report.list.length + 3 ≤ 32) ∧ (n = 30 → hasRoom s 3 = false)) ∧
    (∀ len, len = 2 ∨ len = 3 →
      meetsLate (trailing (tw 2 34 32) (kept len 34 (ctx0 .verified))) (tw 2 34 32) (alone 32) .verified ∧
        (alone 32).hasPayload = false ∧
        ((kept len 34 (ctx0 .verified)).taken = some (trailerOf 2 34) ↔ len = 2)) ∧
    (∀ st, st = .lost ∨ st = .guard →
      meetsLate (collecting def0 (ctx0 st)) (pw 0) (touch0 0 2 def0) st ∧
        meetsLate (trailing (tw 2 34 32) (ctx0 st)) (tw 2 34 32) (alone 32) st) ∧
    (let r := req .write 0 (0x100000 + 65504) 32 (List.replicate 32 0)
     meetsLate (trailing r (ctx0 .verified)) r (touch0 65504 65536 def0) .verified ∧
       (touch0 65504 65536 def0).significant = false) := by
  unfold meetsLate RestInv LoadOnlyWhileLoading HeadDue awaits OneBay
  refine ⟨?_, ?_, ?_, by decide +kernel⟩
  · rintro n (rfl | rfl) <;> decide +kernel
  · rintro n (rfl | rfl) <;> decide +kernel
  · rintro n (rfl | rfl) <;>
      exact ⟨by decide +kernel, by decide +kernel, ⟨rfl, .inl (by decide +kernel), by decide +kernel⟩, rfl,
        .inr (.inl (by decide +kernel)), by decide +kernel⟩

def pr : Request := req .read 0 0x100000 2 []

def reading (c : Context) : State := withHead (withCtx base c) 0 pr none

def meetsRead (s : State) : Prop :=
  RestInv s ∧ HeadDue s 0 pr ∧ pr.kind = .read ∧ classify s pr = .payload (touch0 0 2 def0) ∧
    def0.readPolicy = .fence

theorem meets_IsolationAndReadFence :
    (let s := reading { ctx0 .mismatch with isolated := true }
     meetsRead s ∧ OneBay s pr (touch0 0 2 def0) ∧ bayIsolated s 0 0 = true) ∧
    (meetsRead (withHead base 0 pr none) ∧ bayIsolated (withHead base 0 pr none) 0 0 = false ∧
      bayState (withHead base 0 pr none) 0 0 = none) ∧
    (let s := reading (ctx0 .guard)
     meetsRead s ∧ bayIsolated s 0 0 = false ∧ bayState s 0 0 = some .guard) ∧
    (let s := reading (ctx0 .lost)
     meetsRead s ∧ bayState s 0 0 ≠ some .verified ∧ (bayState s 0 0).any CtxState.isFinal = true) ∧
    (let s := reading (ctx0 .priming)
     meetsRead s ∧ lookup s 0 0 = some 0 ∧ bayState s 0 0 = some .priming) ∧
    (let s := reading (ctx0 .collecting)
     meetsRead s ∧ bayState s 0 0 = some .collecting) ∧
    (let s := reading (ctx0 .verified)
     meetsRead s ∧ bayIsolated s 0 0 = false ∧ bayState s 0 0 = some .verified) := by
  unfold meetsRead RestInv LoadOnlyWhileLoading HeadDue awaits OneBay
  have h : lookup (withHead base 0 pr none) 0 0 = none := lookup_of_all (x := Context.free) rfl rfl
  refine ⟨?_, ⟨?_, by simp [bayIsolated, h], by simp [bayState, h]⟩, ?_, ?_, ?_, ?_, ?_⟩ <;> decide +kernel

def passing : WinDef := { def0 with readPolicy := .pass }

/-- A read that begins one byte before bay 0. -/
def before : Request := req .read 0 0x0FFFFF 2 []

theorem meets_IsolationAndReadFence_further :
    (let s := withHead (running passing) 0 pr none
     RestInv s ∧ HeadDue s 0 pr ∧ OneBay s pr (touch0 0 2 passing) ∧ bayIsolated s 0 0 = false) ∧
    (let r := req .read 0 (0x100000 + 65472) 1 []
     let s := withHead (withCtx base (ctx0 .lost)) 0 r none
     RestInv s ∧ HeadDue s 0 r ∧ OneBay s r (touch0 65472 65473 def0) ∧ bayIsolated s 0 0 = false ∧
       (touch0 65472 65473 def0).hasPayload = false) ∧
    (∀ iso, iso = true ∨ iso = false →
      let s := withHead (withCtx base { ctx0 .mismatch with isolated := iso }) 0 before none
      RestInv s ∧ HeadDue s 0 before ∧ classify s before = .straddle [touch0 0 1 def0] ∧ bayIsolated s 0 0 = iso) := by
  unfold RestInv LoadOnlyWhileLoading HeadDue awaits OneBay
  have h : lookup (withHead (running passing) 0 pr none) 0 0 = none := lookup_of_all (x := Context.free) rfl rfl
  refine ⟨⟨by decide +kernel, by decide +kernel, by decide +kernel, by simp [bayIsolated, h]⟩, by decide +kernel, ?_⟩
  rintro iso (rfl | rfl) <;> decide +kernel

/-- A write that begins one byte before bay 0. -/
def straddling : Request := req .write 0 0x0FFFFF 2 [1, 2]

def meetsStraddle (s : State) : Prop :=
  RestInv s ∧ HeadDue s 0 straddling ∧ straddling.wf = true ∧ straddling.kind = .write ∧
    classify s straddling = .straddle [touch0 0 1 def0] ∧
    inPage s straddling.addr.toNat straddling.count = false ∧ (touch0 0 1 def0).significant = true

theorem meets_StraddleWriteLoses :
    (∀ st, st = .priming ∨ st = .collecting ∨ st = .verified ∨ st = .lost ∨ st = .guard →
      let s := withHead (withCtx base (ctx0 st)) 0 straddling none
      meetsStraddle s ∧ bayIsolated s 0 0 = false ∧ lookup s 0 0 = some 0 ∧ (getCtx s 0).state = st ∧
        (getCtx s 0).binding = some binding0 ∧ nothingOwed s = true ∧ s.report.list.length + 4 ≤ 32 ∧
        s.sweeper.visit = none) ∧
    (let s := withHead (withCtx base { ctx0 .mismatch with isolated := true }) 0 straddling none
     meetsStraddle s ∧ bayIsolated s 0 0 = true) ∧
    (meetsStraddle (withHead base 0 straddling none) ∧ bayState (withHead base 0 straddling none) 0 0 = none) := by
  unfold meetsStraddle RestInv LoadOnlyWhileLoading HeadDue awaits
  have h : lookup (withHead base 0 straddling none) 0 0 = none := lookup_of_all (x := Context.free) rfl rfl
  refine ⟨?_, by decide +kernel, by decide +kernel, by simp [bayState, h]⟩
  rintro st (rfl | rfl | rfl | rfl | rfl) <;> decide +kernel

def fwd0 : FwdRecord := { lane := 0, ident := 1, kind := .write, tracked := some (0, 1) }

theorem meets_ResponsesAreRelayed :
    (let s := withIssued (withCtx base (ctx0 .collecting)) (issued (.forwarded fwd0) .write 2)
     RestInv s ∧ findIssued s 0 = some (issued (.forwarded fwd0) .write 2) ∧
       respFits (issued (.forwarded fwd0) .write 2) (.okay []) = true ∧
       respFits (issued (.forwarded fwd0) .write 2) .error = true ∧ s.engine.state = .running ∧
       (getCtx s 0).binding.map (·.number) = some 1 ∧ (getCtx s 0).state = .collecting ∧ nothingOwed s = true ∧
       s.report.list.length + 4 ≤ 32) ∧
    (let s := withIssued (withCtx base (ctx0 .lost)) (issued (.forwarded fwd0) .write 2)
     RestInv s ∧ findIssued s 0 = some (issued (.forwarded fwd0) .write 2) ∧ (getCtx s 0).state ≠ .collecting) := by
  unfold RestInv LoadOnlyWhileLoading
  decide +kernel

theorem meets_IssueAndOrphans :
    let m1 := issued (.forwarded fwd0) .write 2
    let m2 := issued (.reconcile 0) .read 2
    let m3 := issued .producerWord .write 4
    let m4 := issued (.recheck 0) .read 2
    let p : Port := { q1 := [m1], q2 := [m2], q3 := [m3], q4 := [m4], outstanding := [], nextId := 0 }
    (p.q1 = m1 :: [] ∧ m1.owner.isForwarded = true) ∧ (p.q2 = m2 :: [] ∧ m2.owner = .reconcile 0) ∧
      (m3.owner.isReconcile = false ∧ m3.owner.isRecheck = false) ∧ m4.owner = .recheck 0 ∧
      (findIssued (withIssued base (issued .orphan .read 2)) 0).map (·.owner) = some .orphan := by
  decide +kernel

theorem meets_ConsumerValueIsTested :
    (let s := { base with report := { base.report with consumerIn := [0] } }
     RestInv s ∧ s.engine.state = .running ∧ s.report.consumerIn = 0 :: [] ∧ nothingOwed s = true ∧
       (s.report.producer - 0).toNat + 0 ≤ 256) ∧
    (let s := { base with report := { base.report with consumerIn := [1] } }
     RestInv s ∧ s.report.consumerIn = 1 :: [] ∧ 256 < (s.report.producer - 1).toNat + 0) := by
  unfold RestInv LoadOnlyWhileLoading
  decide +kernel

/-- An order found by the examination that is due. -/
def ordered (s : State) (code w mode : Byte) (body : List Byte) : State := withOrder s (orderOf code w mode body)

def found (code w mode : Byte) (body : List Byte) : Order := readOrder (orderOf code w mode body ++ leBytes (24 - body.length) 0)

theorem meets_ExaminationTakesTheOrder :
    ({ base with orders := { base.orders with examDue := true } } : State).orders.examDue = true ∧
      foundOrder { base with orders := { base.orders with examDue := true } } = none ∧
      (∀ k ∈ List.range 12, OrderFound (ordered base (BitVec.ofNat 8 (k + 1)) 0 0 [])
        (found (BitVec.ofNat 8 (k + 1)) 0 0 [])) := by
  unfold OrderFound
  decide +kernel

/-- The window table entry of `def0` but for its count. -/
def entry0 (count : Byte) : List Byte :=
  [1, 16, count, 0, 1, 1, 2, 1] ++ leBytes 8 0x100000 ++ leBytes 8 3 ++ [4, 0, 1, 0] ++ leBytes 2 5 ++ leBytes 2 6 ++
    leBytes 2 7 ++ leBytes 30 0

def withEntry (s : State) (count : Byte) : State :=
  { s with orders := { s.orders with shadow := copyBytes s.orders.shadow 0x400 (entry0 count) } }

theorem test_taken_definition :
    takeDefinition (windowEntry (withEntry base 2) 0) = some (.enabled def0) := by decide +kernel

theorem meets_SetWindowAppliesOrStages :
    (OrderFound (ordered base 1 16 0 []) (found 1 16 0 []) ∧ (found 1 16 0 []).window = none) ∧
    (let s := ordered (withEntry base 0) 1 0 0 []
     OrderFound s (found 1 0 0 []) ∧ (found 1 0 0 []).code = 1 ∧ (found 1 0 0 []).window = some 0 ∧
       validate s 0 (takeDefinition (windowEntry s 0)) = some .range) ∧
    (let s := ordered (withEntry base 2) 1 0 0 []
     OrderFound s (found 1 0 0 []) ∧ takeDefinition (windowEntry s 0) = some (.enabled def0) ∧
       validate s 0 (some (.enabled def0)) = none ∧ (getWin s 0).bound = 0 ∧ s.sweeper.job = none) ∧
    (let s := ordered (withEntry (withCtx base (ctx0 .collecting)) 2) 1 0 0 []
     OrderFound s (found 1 0 0 []) ∧ takeDefinition (windowEntry s 0) = some (.enabled def0) ∧
       validate s 0 (some (.enabled def0)) = none ∧ (getWin s 0).state ≠ .off ∧ (getWin s 0).bound ≠ 0) := by
  unfold OrderFound
  decide +kernel

def fencedBase : State := setWin base 0 { getWin base 0 with state := .fenced, strikes := 3 }

theorem meets_ReleaseReturnsAFencedWindow :
    (OrderFound (ordered base 2 255 0 []) (found 2 255 0 []) ∧ (found 2 255 0 []).code = 2 ∧
      (found 2 255 0 []).window = none) ∧
    (OrderFound (ordered base 2 15 0 []) (found 2 15 0 []) ∧ (found 2 15 0 []).window = some 15 ∧
      (getWin (ordered base 2 15 0 []) 15).state ≠ .fenced) ∧
    (OrderFound (ordered fencedBase 2 0 0 []) (found 2 0 0 []) ∧
      (getWin (ordered fencedBase 2 0 0 []) 0).state = .fenced) := by
  unfold OrderFound
  decide +kernel

/-- OPEN's body: a key, an object id and a length. -/
def openBody (key len : Nat) : List Byte := leBytes 8 key ++ leBytes 8 7 ++ leBytes 8 len

def opening (s : State) (b : List Byte) : State := ordered s 3 0 1 b

theorem meets_OpenBindsAContext :
    (OrderFound (ordered base 3 16 0 []) (found 3 16 0 []) ∧ (found 3 16 0 []).window = none) ∧
    (OrderFound (ordered base 3 1 0 []) (found 3 1 0 []) ∧ (getWin (ordered base 3 1 0 []) 1).state = .off) ∧
    (OrderFound (ordered fencedBase 3 0 0 []) (found 3 0 0 []) ∧
      (getWin (ordered fencedBase 3 0 0 []) 0).state = .fenced) ∧
    (let s := ordered (setWin (withCtx base (ctx0 .guard)) 0
       { getWin base 0 with bound := 1, staged := some .disabled }) 3 0 0 []
     OrderFound s (found 3 0 0 []) ∧ (getWin s 0).state = .active ∧ (getWin s 0).defn = some def0 ∧
       (getWin s 0).draining = true) ∧
    (let b := [3, 1, 0, 0, 0, 0, 2, 0]
     OrderFound (withOrder base b) (readOrder (b ++ leBytes 24 0)) ∧
       def0.count ≤ (readOrder (b ++ leBytes 24 0)).bay) ∧
    (OrderFound (ordered (withCtx base (ctx0 .guard)) 3 0 0 []) (found 3 0 0 []) ∧
      (lookup (ordered (withCtx base (ctx0 .guard)) 3 0 0 []) 0 (found 3 0 0 []).bay).isSome = true) := by
  unfold OrderFound
  decide +kernel

theorem meets_OpenBindsAContext_checks :
    (OrderFound (opening base (openBody (P + 1) 0)) (found 3 0 1 (openBody (P + 1) 0)) ∧
      (found 3 0 1 (openBody (P + 1) 0)).key % P = 1 ∧ lookup (opening base (openBody (P + 1) 0)) 0 0 = none) ∧
    (OrderFound (opening base (openBody (P - 2) 65473)) (found 3 0 1 (openBody (P - 2) 65473)) ∧
      (found 3 0 1 (openBody (P - 2) 65473)).length = some (def0.capacity + 1)) ∧
    (OrderFound (opening full (openBody 2 65472)) (found 3 0 1 (openBody 2 65472)) ∧
      lowestFree (opening full (openBody 2 65472)) = none ∧ lookup (opening full (openBody 2 65472)) 0 0 = none) ∧
    (OrderFound (opening base (openBody 2 65472)) (found 3 0 1 (openBody 2 65472)) ∧
      (found 3 0 1 (openBody 2 65472)).length = some def0.capacity ∧ (found 3 0 1 (openBody 2 65472)).key = 2 ∧
      lowestFree (opening base (openBody 2 65472)) = some 0) := by
  unfold OrderFound
  refine ⟨⟨?_, ?_, ?_⟩, ?_, ⟨?_, ?_, ?_⟩, ?_⟩
  · decide +kernel
  · decide +kernel
  · exact lookup_of_all (x := Context.free) rfl rfl
  · decide +kernel
  · decide +kernel
  · exact lowestFree_of_all (x := { ctx0 .verified with binding := some { binding0 with bay := 1 } }) rfl (by decide)
  · exact lookup_of_all (x := { ctx0 .verified with binding := some { binding0 with bay := 1 } }) rfl (by decide)
  · decide +kernel

def meetsBay (s : State) (o : Order) (st : CtxState) : Prop :=
  OrderFound s o ∧ o.window = some 0 ∧ (getWin s 0).region = some def0 ∧ o.bay < def0.count ∧
    lookup s 0 o.bay = some 0 ∧ (getCtx s 0).state = st ∧ (getCtx s 0).binding = some binding0 ∧
    (getWin s 0).staged = none ∧ s.sweeper.visit = none ∧ s.report.list.length + 3 ≤ 32

/-- CLOSE of bay 2 of window 0. -/
def closeBeyond : List Byte := [4, 1, 0, 0, 0, 0, 2, 0]

/-- With the builder at work on context 0 alone. -/
def buildingFirst (s : State) : State := { s with builder := { building := some 0, queue := [] } }

theorem meets_CloseAbortsATransfer :
    (∀ st, st = .lost ∨ st = .guard ∨ st = .collecting →
      let s := ordered (withCtx base (ctx0 st)) 4 0 0 []
      meetsBay s (found 4 0 0 []) st ∧ BuilderInv s) ∧
    (let s := ordered (buildingFirst (withCtx base (ctx0 .priming))) 4 0 0 []
     meetsBay s (found 4 0 0 []) .priming ∧ BuilderInv s ∧ s.builder.building = some 0) ∧
    (OrderFound (ordered base 4 16 0 []) (found 4 16 0 []) ∧ (found 4 16 0 []).window = none) ∧
    (OrderFound (ordered base 4 1 0 []) (found 4 1 0 []) ∧ (getWin (ordered base 4 1 0 []) 1).region = none) ∧
    (OrderFound (withOrder base closeBeyond) (readOrder (closeBeyond ++ leBytes 24 0)) ∧
      def0.count ≤ (readOrder (closeBeyond ++ leBytes 24 0)).bay) ∧
    (OrderFound (ordered base 4 0 0 []) (found 4 0 0 []) ∧ lookup (ordered base 4 0 0 []) 0 0 = none) := by
  unfold meetsBay OrderFound BuilderInv
  refine ⟨?_, by decide +kernel, by decide +kernel, by decide +kernel, by decide +kernel, by decide +kernel,
    lookup_of_all (x := Context.free) rfl rfl⟩
  rintro st (rfl | rfl | rfl) <;> decide +kernel

def unguarded : WinDef := { def0 with guardTicks := 0 }

/-- Window 0 with these bound contexts and this staged definition. -/
def draining (s : State) (n : Nat) (x : Option TakenDef) : State := setWin s 0 { getWin s 0 with bound := n, staged := x }

theorem meets_RetireEntersGuardOrFrees :
    (∀ st, st = .priming ∨ st = .collecting ∨ st = .guard ∨ st = .verified →
      meetsBay (ordered (withCtx base (ctx0 st)) 5 0 0 []) (found 5 0 0 []) st) ∧ 0 < def0.guardTicks ∧
    (∀ n x, (n, x) = (1, none) ∨ (n, x) = (1, some .disabled) ∨ (n, x) = (2, some (TakenDef.enabled def0)) →
      let s := ordered (draining (withCtx (running unguarded) (ctx0 .aborted)) n x) 5 0 0 []
      OrderFound s (found 5 0 0 []) ∧ (getWin s 0).region = some unguarded ∧ lookup s 0 0 = some 0 ∧
        (getCtx s 0).state.isFinal = true ∧ unguarded.guardTicks = 0 ∧ s.sweeper.job = none ∧
        (getWin s 0).bound = n ∧ (getWin s 0).staged = x) := by
  unfold meetsBay OrderFound
  refine ⟨?_, by decide, ?_⟩
  · rintro st (rfl | rfl | rfl | rfl) <;> decide +kernel
  · rintro n x (h | h | h) <;> cases h <;> decide +kernel

theorem meets_ClearAllFreesEverything :
    let s := ordered (reading (ctx0 .collecting)) 6 0 0 []
    OrderFound s (found 6 0 0 []) ∧ (found 6 0 0 []).code = 6 ∧ (∀ w : WinId, (getWin s w).staged = none) ∧
      s.sweeper.job = none := by
  unfold OrderFound
  decide +kernel

def job0 : SweepJob := { win := 0, first := 0, last := 1, mode := .once, current := 0 }

def sweeping (s : State) (st : SweepState) : State :=
  { s with sweeper := { s.sweeper with state := st, job := some job0 } }

theorem meets_RecheckStartsASweep :
    (OrderFound (ordered base 7 16 1 []) (found 7 16 1 []) ∧ (found 7 16 1 []).window = none) ∧
    (OrderFound (ordered base 7 1 1 []) (found 7 1 1 []) ∧ (getWin (ordered base 7 1 1 []) 1).region = none) ∧
    (OrderFound (ordered base 7 0 4 []) (found 7 0 4 []) ∧ (found 7 0 4 []).sweepMode = none) ∧
    (OrderFound (ordered base 7 0 1 [0, 0, 2, 0]) (found 7 0 1 [0, 0, 2, 0]) ∧
      def0.count ≤ (found 7 0 1 [0, 0, 2, 0]).lastBay) ∧
    (OrderFound (ordered (sweeping base .running) 7 0 1 []) (found 7 0 1 []) ∧
      (found 7 0 1 []).restart = false ∧ (found 7 0 1 []).firstBay < def0.count) ∧
    (OrderFound (ordered (sweeping base .running) 7 0 0x81 []) (found 7 0 0x81 []) ∧
      (found 7 0 0x81 []).restart = true ∧ (found 7 0 0x81 []).sweepMode = some .once ∧
      (getWin base 0).region = some def0 ∧ (found 7 0 0x81 []).lastBay < def0.count ∧ job0.mode = .once ∧
      job0.win = 0) ∧
    (OrderFound (ordered base 7 0 3 [1, 0, 0, 0]) (found 7 0 3 [1, 0, 0, 0]) ∧
      (found 7 0 3 [1, 0, 0, 0]).sweepMode = some .step ∧
      (getWin (ordered base 7 0 3 [1, 0, 0, 0]) 0).region = some def0 ∧ base.sweeper.state = .idle) := by
  unfold OrderFound
  decide +kernel

theorem meets_StepAndStopSweep :
    ∀ k, k = (8 : Byte) ∨ k = 9 →
      OrderFound (ordered base k 0 0 []) (found k 0 0 []) ∧ base.sweeper.state = .idle ∧
        OrderFound (ordered (sweeping base .running) k 0 0 []) (found k 0 0 []) ∧
        OrderFound (ordered (sweeping base .waitingStep) k 0 0 []) (found k 0 0 []) ∧
        (ordered (sweeping base .waitingStep) k 0 0 []).sweeper.job = some job0 := by
  unfold OrderFound
  rintro k (rfl | rfl) <;> decide +kernel

theorem meets_SnapshotBeginsOrRepeats :
    (OrderFound (ordered base 10 0 0 []) (found 10 0 0 []) ∧ base.report.snapWriting = none) ∧
    (let s := { base with report := { base.report with snapWriting := some 16 } }
     OrderFound (ordered s 10 0 0 []) (found 10 0 0 []) ∧ s.report.snapWriting = some 16) := by
  unfold OrderFound
  decide +kernel

theorem meets_SetEngineAndUnknownOrders :
    (OrderFound (ordered base 11 0 0 []) (found 11 0 0 []) ∧ (found 11 0 0 []).code = 11) ∧
    (OrderFound (ordered base 12 0 0 []) (found 12 0 0 []) ∧ 11 < (found 12 0 0 []).code.toNat) := by
  unfold OrderFound
  decide +kernel

theorem meets_LadderCompleteBeginsCollecting :
    let s := { withCtx base { ctx0 .priming with ladder := none } with builder := { building := some 0, queue := [] } }
    s.builder.building = some 0 ∧ (getCtx s 0).state = .priming ∧ (getCtx s 0).binding = some binding0 ∧
      (getWin s binding0.win).defn = some def0 := by decide +kernel

def rec0 : ReconRec :=
  { write := pw 0, offset := 0, pieces := [⟨0, 2⟩], span := ⟨0, 2⟩, standing := .issued }

/-- A reconcile of lane 0 with its read issued, of `n` in flight for context 0. -/
def reconciling (x : Slot) (st : CtxState) (n : Nat) : State :=
  setSlot
    (withHead (withIssued (withCtx base { ctx0 st with reconCount := n }) (issued (.reconcile 0) .read 2)) 0 (pw 0)
      (some .reconcile)) 0 x

/-- A reconcile of lane 0, of `n` in flight for this context. -/
def returning (c : Context) (n : Nat) : State := setCtx (reconciling (.attached 0 rec0) .collecting n) 0 { c with reconCount := n }

theorem meets_ReconcileReturnCorrects :
    (∀ n, n = 1 ∨ n = 2 →
      let c := { awaiting 34 with extents := [⟨0, 2⟩] }
      let s := returning c n
      RestInv s ∧ s.engine.state = .running ∧ findIssued s 0 = some (issued (.reconcile 0) .read 2) ∧
        ([1, 2] : List Byte).length = 2 ∧ getSlot s 0 = .attached 0 rec0 ∧ (getCtx s 0).state = .collecting ∧
        (getCtx s 0).binding = some binding0 ∧ (getCtx s 0).reconCount = n ∧ (getCtx s 0).taken.isSome = true ∧
        complete (getCtx s 0).extents (getCtx s 0).len = true ∧ nothingOwed s = true ∧
        s.report.list.length + 4 ≤ 32) := by
  unfold RestInv LoadOnlyWhileLoading
  rintro n (rfl | rfl) <;> decide +kernel

theorem meets_ReconcileErrorsAndDetachedReads :
    (let s := reconciling (.attached 0 rec0) .collecting 1
     RestInv s ∧ s.engine.state = .running ∧ findIssued s 0 = some (issued (.reconcile 0) .read 2) ∧
       getSlot s 0 = .attached 0 rec0 ∧ (getCtx s 0).state = .collecting ∧ (getCtx s 0).binding = some binding0 ∧
       nothingOwed s = true ∧ s.report.list.length + 4 ≤ 32 ∧ getFence s 0 = none) ∧
    (let s := reconciling (.detached rec0) .lost 0
     findIssued s 0 = some (issued (.reconcile 0) .read 2) ∧ getSlot s 0 = .detached rec0) := by
  unfold RestInv LoadOnlyWhileLoading
  decide +kernel

/-- With a tick due, and the one before it delivered to no owner. -/
def ticking (s : State) : State := { s with time := { s.time with ticksDue := 1, tickOpen := false } }

/-- With every owner's event of the delivered tick still to be taken. -/
def delivered (s : State) : State :=
  { s with time := { s.time with ctxDue := Vector.replicate 256 true, readDue := Vector.replicate 16 true, tickOpen := true } }

/-- The read of lane 0 held for FENCE on the bay of context 0. -/
def heldRead (n : Nat) : FenceRec := { win := 0, bay := 0, ctx := 0, hold := n }

def readHeld (n : Nat) : State :=
  delivered (setFence (withHead (withCtx base (ctx0 .collecting)) 0 pr (some .fence)) 0 (some (heldRead n)))

theorem meets_TickAgesItsOwners :
    (let s := ticking (withCtx base (ctx0 .collecting))
     s.time.running = true ∧ 0 < s.time.ticksDue ∧ tickUnfinished s = false) ∧
    tickUnfinished (delivered (withCtx base (ctx0 .collecting))) = true ∧
    (let s := delivered (withCtx base { ctx0 .collecting with idle := some 2 })
     s.engine.state = .running ∧ ctxDue s 0 = true ∧ (getCtx s 0).state = .collecting ∧ (getCtx s 0).idle = some 2) ∧
    (let s := delivered (withCtx base { ctx0 .guard with guardCount := some 2 })
     ctxDue s 0 = true ∧ (getCtx s 0).state = .guard ∧ (getCtx s 0).guardCount = some 2) ∧
    (ctxDue (delivered (withCtx base (ctx0 .lost))) 0 = true ∧
      (getCtx (delivered (withCtx base (ctx0 .lost))) 0).state = .lost) ∧
    (readDue (readHeld 2) 0 = true ∧ getFence (readHeld 2) 0 = some (heldRead 2) ∧
      (getLane (readHeld 2) 0).head.isSome = true ∧ readDue (readHeld 2) 1 = true ∧ getFence (readHeld 2) 1 = none) ∧
    (∀ n, n = none ∨ n = some 2 →
      let s := delivered { base with time := { base.time with countdown := n } }
      s.engine.state = .running ∧ s.time.tickOpen = true ∧ s.time.pendingSettings = none ∧
        s.time.countdown.all (fun n => decide (2 ≤ n)) = true) := by
  refine ⟨by decide +kernel, by decide +kernel, by decide +kernel, by decide +kernel, by decide +kernel,
    by decide +kernel, ?_⟩
  rintro n (rfl | rfl) <;> decide +kernel

theorem meets_IdleCountEndExpires :
    ∀ n, n = 1 ∨ n = 2 →
      let s := delivered (withCtx base { ctx0 .collecting with idle := some n })
      s.engine.state = .running ∧ (getCtx s 0).state = .collecting ∧ ctxDue s 0 = true ∧
        (getCtx s 0).idle = some n ∧ (getCtx s 0).binding = some binding0 ∧ nothingOwed s = true ∧
        s.report.list.length + 4 ≤ 32 := by
  rintro n (rfl | rfl) <;> decide +kernel

/-- A context in GUARD whose count the delivered tick ends. -/
def leaving (n : Nat) (x : Option TakenDef) : State :=
  delivered (draining (withCtx base { ctx0 .guard with guardCount := some 1 }) n x)

theorem meets_GuardAndHoldCountsEnd :
    (∀ n x, (n, x) = (1, none) ∨ (n, x) = (1, some .disabled) ∨ (n, x) = (2, some (TakenDef.enabled def0)) →
      let s := leaving n x
      AccumulatorInv s ∧ RestInv s ∧ s.engine.state = .running ∧ (getCtx s 0).state = .guard ∧ ctxDue s 0 = true ∧
        (getCtx s 0).binding = some binding0 ∧ (getCtx s 0).guardCount = some 1 ∧
        (getWin s binding0.win).staged = x ∧ (getWin s binding0.win).bound = n ∧ nothingOwed s = true ∧
        s.report.list.length < 32 ∧ s.sweeper.job = none) ∧
    (AccumulatorInv (readHeld 1) ∧ RestInv (readHeld 1) ∧ (readHeld 1).engine.state = .running ∧
      getFence (readHeld 1) 0 = some (heldRead 1) ∧ readDue (readHeld 1) 0 = true ∧
      (getLane (readHeld 1) 0).head = some { req := pr, standing := .held .fence }) := by
  unfold RestInv LoadOnlyWhileLoading
  refine ⟨?_, ?_, by decide +kernel⟩
  · rintro n x (h | h | h) <;> cases h
    all_goals
      refine ⟨accumulators_of_one (x := { ctx0 .guard with guardCount := some 1 }) rfl (by decide) (by decide) rfl, ?_⟩
      decide +kernel
  · exact accumulators_of_one (x := ctx0 .collecting) rfl (by decide) (by decide) rfl

theorem meets_SettingsAdoptedAndCountdownEnds :
    (let v : Settings := { interval := 1, period := 0, attn := true }
     let s := { base with time := { base.time with tickOpen := true, pendingSettings := some v } }
     RestInv s ∧ s.engine.state = .running ∧ s.time.tickOpen = true ∧ s.time.pendingSettings = some v) ∧
    (∀ x, x = none ∨ x = some 16 →
      let s := { base with
        time := { base.time with tickOpen := true, countdown := some 1, period := 4 }
        report := { base.report with snapWriting := x } }
      RestInv s ∧ s.time.tickOpen = true ∧ s.time.pendingSettings = none ∧ s.time.countdown = some 1 ∧
        s.report.snapWriting = x) := by
  unfold RestInv LoadOnlyWhileLoading
  refine ⟨by decide +kernel, ?_⟩
  rintro x (rfl | rfl) <;> decide +kernel

theorem meets_StatusBlocksFollowInOrder :
    ∀ n, n = 0 ∨ n = 15 ∨ n = 16 →
      let s := withIssued { base with report := { base.report with snapWriting := some n } }
        (issued .statusBlock .write 64)
      findIssued s 0 = some (issued .statusBlock .write 64) ∧ s.report.snapWriting = some n ∧
        s.report.snapRepeat = false ∧ (n < 16 → n = (Fin.ofNat 16 n : WinId).val) ∧ (n = 16 → 16 ≤ n) := by
  rintro n (rfl | rfl | rfl) <;> decide +kernel

/-- Fenced with its WINDOW-APPLIED and WINDOW-FENCED owed, an ended transfer with an owed report, a waiting record of the
sweeper and a waiting ORDER-DONE, with `n` records before them. -/
def owing (n : Nat) : State :=
  let s := withCtx base { ctx0 .lost with first := some { state := .lost, cause := .straddle }, owed := 1 }
  let w := setWin s 0 { getWin s 0 with state := .fenced, strikes := 3, owedApplied := true, owedFenced := true }
  withIssued
    (withRecords
      { w with
        sweeper := { w.sweeper with waiting := [.sweepDone .stopped 0 0 0 0] }
        orders := { w.orders with waitingDone := some (.orderDone 2 .done 0 1 none none) } } n)
    (issued .record .write 32)

theorem meets_RecordsAreCounted :
    (∀ n, n = 26 ∨ n = 29 →
      findIssued (owing n) 0 = some (issued .record .write 32) ∧ (owing n).engine.state = .running ∧
        (owing n).report.inFlight = some { seq := 0, body := .windowFenced 0 0 } ∧ ContextsBound (owing n) ∧
        (owing n).report.list ≠ [] ∧ (owing n).report.list.length ≤ 32 ∧
        ((owing n).report.producer + 1 - (owing n).report.consumer).toNat < 256) ∧
    (granted 7 [[Report.windowFenced 0 0], [Report.windowFenced 0 0]]).2 = [] ∧
    findIssued (withIssued base (issued .producerWord .write 4)) 0 = some (issued .producerWord .write 4) := by
  refine ⟨?_, by decide, by decide +kernel⟩
  rintro n (rfl | rfl)
  all_goals
    refine ⟨by decide +kernel, by decide, by decide, fun c => ?_, by decide +kernel, by decide +kernel, by decide +kernel⟩
    rw [getCtx_one (x := { ctx0 .lost with first := some { state := .lost, cause := .straddle }, owed := 1 }) rfl]
    split <;> decide

/-- A pass whose last bay is its current one. -/
def lastBay (m : SweepMode) : SweepJob := { job0 with last := 0, mode := m }

def sweepingLast (s : State) (m : SweepMode) : State :=
  { s with sweeper := { s.sweeper with state := .running, job := some (lastBay m) } }

theorem meets_VisitBeginsOrIsSkipped :
    (let s := sweeping base .running
     RestInv s ∧ s.engine.state = .running ∧ s.sweeper.state = .running ∧ s.sweeper.job = some job0 ∧
       s.sweeper.visit = none ∧ s.sweeper.waiting = [] ∧ bayState s 0 0 ≠ some .verified ∧
       job0.current ≠ job0.last ∧ nothingOwed s = true ∧ s.report.list.length < 32) ∧
    (∀ m, m = .once ∨ m = .repeating ∨ m = .step →
      let s := sweepingLast (withCtx base (ctx0 .lost)) m
      RestInv s ∧ s.engine.state = .running ∧ s.sweeper.state = .running ∧ s.sweeper.job = some (lastBay m) ∧
       s.sweeper.visit = none ∧ s.sweeper.waiting = [] ∧ bayState s 0 0 ≠ some .verified ∧
       (lastBay m).current = (lastBay m).last ∧ nothingOwed s = true ∧ s.report.list.length < 32) ∧
    (∀ v, v = 0 ∨ v = 1 →
      let s := sweeping (withCtx base { ctx0 .verified with len := some 0, verifiedCheck := some v }) .running
      RestInv s ∧ s.sweeper.visit = none ∧ s.sweeper.waiting = [] ∧ lookup s 0 0 = some 0 ∧
        (getCtx s 0).state = .verified ∧ (getCtx s 0).binding = some binding0 ∧ (getCtx s 0).len = some 0 ∧
        (getCtx s 0).verifiedCheck = some v ∧ nothingOwed s = true ∧ s.report.list.length + 6 ≤ 32) ∧
    (let s := sweeping (withCtx base { ctx0 .verified with len := some 1 }) .running
     RestInv s ∧ s.sweeper.visit = none ∧ s.sweeper.waiting = [] ∧ lookup s 0 0 = some 0 ∧
       (getCtx s 0).state = .verified ∧ (getCtx s 0).binding = some binding0 ∧ (getWin s 0).defn = some def0 ∧
       (getCtx s 0).len = some (0 + 1)) := by
  unfold RestInv LoadOnlyWhileLoading
  have h : lookup (sweeping base .running) 0 0 = none := lookup_of_all (x := Context.free) rfl rfl
  refine ⟨⟨by decide +kernel, by decide, by decide, rfl, rfl, rfl, by simp [bayState, h], by decide, ?_, by decide⟩,
    ?_, ?_, by decide +kernel⟩
  · have o : owedTransfer (sweeping base .running) = false := by
      have h : (sweeping base .running).ctxs = Vector.replicate 256 Context.free := rfl
      rw [owedTransfer, h, Vector.toList_replicate]
      decide +kernel
    simp only [nothingOwed, anyOwed, o]
    decide +kernel
  · rintro m (rfl | rfl | rfl) <;> decide +kernel
  · rintro m (rfl | rfl) <;> decide +kernel

/-- A visit of this length, in a pass of one bay or of two, with its first read issued and any others answered. -/
def visiting (len : Nat) (j : SweepJob) : State :=
  let s := withCtx base { ctx0 .verified with len := some len, verifiedCheck := some 34, acc := 34 }
  withIssued
    { s with
      sweeper := { s.sweeper with
        state := .running, job := some j
        visit := some { ctx := 0, number := 1, len := len, sum := 0, chunk := 0
                        reads := (chunkReads len 0).map fun x =>
                          if x.off = 0 then x else { x with standing := .answered } } } }
    (issued (.recheck 0) .read (readLength len 0))

/-- The reads of a visit once that at offset 0 is answered. -/
def answeredReads (s : State) : List VisitRead :=
  (s.sweeper.visit.map (·.reads)).getD [] |>.map fun x => if x.off = 0 then { x with standing := .answered } else x

theorem meets_RecheckReadsAreSummed :
    (∀ j, j = job0 ∨ j = lastBay .once ∨ j = lastBay .repeating →
      let s := visiting 2 j
      RestInv s ∧ s.engine.state = .running ∧ findIssued s 0 = some (issued (.recheck 0) .read 2) ∧
       s.sweeper.job = some j ∧ (answeredReads s).all (fun x => decide (x.standing = .answered)) = true ∧
       (getCtx s 0).state = .verified ∧ (getCtx s 0).binding = some binding0 ∧ nothingOwed s = true ∧
       s.report.list.length + 6 ≤ 32 ∧ (getCtx s 0).verifiedCheck = some 34 ∧
       addMod 0 (contribution ((getCtx s 0).ladder.getD []) 0 [7, 9]) = 34 ∧
       addMod 0 (contribution ((getCtx s 0).ladder.getD []) 0 [7, 8]) ≠ 34) ∧
    (let s := visiting 4096 job0
     RestInv s ∧ findIssued s 0 = some (issued (.recheck 0) .read 256) ∧
       (answeredReads s).all (fun x => decide (x.standing = .answered)) = true ∧ ¬ 4096 < 4096) ∧
    (let s := visiting 4097 job0
     RestInv s ∧ findIssued s 0 = some (issued (.recheck 0) .read 256) ∧
       (answeredReads s).all (fun x => decide (x.standing = .answered)) = true ∧ 4096 < 4097 ∧
       (getCtx s 0).binding = some binding0 ∧ (getWin s 0).defn = some def0) ∧
    (chunkReads 257 0).length = 2 := by
  unfold RestInv LoadOnlyWhileLoading
  refine ⟨?_, by decide +kernel, by decide +kernel, by decide +kernel⟩
  rintro j (rfl | rfl | rfl) <;> decide +kernel

theorem meets_RecheckErrorCorrupts :
    let s := visiting 2 job0
    s.engine.state = .running ∧ findIssued s 0 = some (issued (.recheck 0) .read 2) ∧ s.sweeper.job = some job0 ∧
      (getCtx s 0).state = .verified ∧ (getCtx s 0).binding = some binding0 ∧ nothingOwed s = true ∧
      s.report.list.length + 4 ≤ 32 ∧ job0.current ≠ job0.last ∧ (getWin s 0).defn = some def0 ∧
      def0.threshold = 0 := by decide +kernel

theorem meets_DivisionAndInsertion : extentsWf list0 = true ∧ extentsWf [] = true ∧ (99 : Nat) < 100 := by decide

theorem meets_PowersAndContributions : 2 < P ∧ 67108864 - 2 + [1].length + [2].length ≤ 67108864 := by decide

/-! ### A step from a state that has each invariant -/

/-- A state with work in it: a COLLECTING transfer with an extent, a waiting write in reconcile, and a tick due. -/
def busy : State :=
  { held with
    pool := { level := 2047, lowest := 2047 }
    report := { held.report with seq := 1, inFlight := some { seq := 0, body := .windowFenced 0 0 } }
    orders := { held.orders with shadow := [(0x800, 1)] }
    pending := [.microsecondStep] }

theorem test_busy_steps : step busy = exec .microsecondStep { busy with pending := [] } := rfl

theorem meets_StepKeepsTheShadow : ShadowInv busy := by
  unfold ShadowInv
  decide +kernel

theorem meets_StepKeepsPinsAndDrain : RestInv busy := by
  unfold RestInv LoadOnlyWhileLoading
  decide +kernel

theorem meets_StepKeepsQueueBounds : QueueInv busy := by
  unfold QueueInv RequestsWf LoadOnlyWhileLoading
  refine ⟨⟨by decide +kernel, fun st h => by cases h⟩, by decide +kernel⟩

/-- The context of the busy state. -/
def busyCtx : Context := { ctx0 .collecting with extents := [⟨0, 2⟩], reconCount := 1 }

theorem busy_ctxs : busy.ctxs = (Vector.replicate 256 Context.free).set 0 busyCtx (by decide) := rfl

theorem meets_StepKeepsAccumulators : AccumulatorInv busy :=
  accumulators_of_one busy_ctxs (by decide) (by decide) rfl

theorem meets_StepKeepsTheExtentPool : PoolInv busy := by
  refine ⟨by unfold listedRecords; decide +kernel, by decide, fun c => ?_⟩
  rw [getCtx_one busy_ctxs]
  split <;> decide

theorem meets_StepKeepsReconcileCounts : ReconcileInv busy := by
  have one : attachedCount busy 0 = 1 := by decide +kernel
  have none : ∀ c : CtxId, c ≠ 0 → attachedCount busy c = 0 := by
    intro c hc
    have h : busy.slots.toList =
        .attached 0 { write := pw 0, offset := 0, pieces := [⟨0, 2⟩], span := ⟨0, 2⟩, standing := .issued } ::
          List.replicate 15 Slot.empty := rfl
    have h0 : (0 : CtxId) ≠ c := fun e => hc e.symm
    simp [attachedCount, h, Slot.attachedTo, h0]
  refine ⟨by unfold HoldInv heldFor; decide +kernel, fun h => absurd rfl h, fun _ c => ?_⟩
  rw [getCtx_one busy_ctxs]
  split
  · rename_i hc
    exact hc ▸ ⟨one.symm, fun e => absurd rfl e⟩
  · rename_i hc
    exact ⟨(none c hc).symm, fun _ => rfl⟩

theorem meets_StepKeepsBoundCounts : BoundInv busy := by
  refine ⟨fun c => ?_, by decide +kernel⟩
  rw [getCtx_one busy_ctxs]
  split <;> decide

theorem meets_StepKeepsTheBuildQueue : BuilderInv busy := by
  unfold BuilderInv
  decide +kernel

theorem meets_StepKeepsRegionsApart : RegionInv busy := by
  unfold RegionInv LoadOnlyWhileLoading
  decide +kernel

/-- Context 0 alone is bound. -/
theorem meets_StepKeepsTheBindingMap : BindingInv busy := by
  intro c k w bay hc hk
  have side : ∀ x : CtxId, boundTo w bay (getCtx busy x) = true → x = 0 := by
    intro x hx
    rw [getCtx_one busy_ctxs] at hx
    split at hx
    · assumption
    · simp [boundTo, Context.free] at hx
  rw [side c hc, side k hk]

/-! ### What commands do on small states, against values worked out from the manual -/

/-- The command goes to a next state of which this holds. -/
def goesTo (c : Instr) (s : State) (q : State → Bool) : Bool :=
  match exec c s with
  | .next t => q t
  | .fault _ => false
  | .refused _ => false

/-- 7 + 9 * 3 = 34 is the accumulator after the bytes 7 and 9 at offsets 0 and 1 under the key 3 (R11, R12). -/
theorem test_write_accounts :
    goesTo (.headEvent 0) (collecting def0 (ctx0 .collecting)) (fun t =>
      decide ((getCtx t 0).acc = 34 ∧ (getCtx t 0).extents = [⟨0, 2⟩] ∧ (getCtx t 0).newBytes = 2)) = true := by
  decide +kernel

theorem test_trailer_verifies :
    goesTo (.headEvent 0) (trailing (tw 2 34 32) two) (fun t =>
      decide ((getCtx t 0).state = .verified ∧ (getCtx t 0).verifiedCheck = some 34)) = true := by
  decide +kernel

/-- The old bytes 1 and 2 replaced by 7 and 9: 34 - (1 + 2 * 3) + 34 (R14). -/
theorem test_reconcile_corrects :
    goesTo (.reconcileReadReturn 0 [1, 2])
      (setCtx (reconciling (.attached 0 rec0) .collecting 1) 0
        { ctx0 .collecting with extents := [⟨0, 2⟩], acc := 7, reconCount := 1 })
      (fun t => decide ((getCtx t 0).acc = 34 ∧ (getCtx t 0).reconCount = 0 ∧ getSlot t 0 = .empty)) = true := by
  decide +kernel

theorem test_ladder_starts :
    goesTo .ladderComplete
      { withCtx base { ctx0 .priming with ladder := none, idle := none } with
        builder := { building := some 0, queue := [] } }
      (fun t => decide ((getCtx t 0).state = .collecting ∧ (getCtx t 0).idle = some 5)) = true := by
  decide +kernel

theorem test_recheck_passes :
    goesTo (.recheckReadDone 0 [7, 9]) (visiting 2 job0) (fun t =>
      decide (t.sweeper.checked = 1 ∧ t.sweeper.job.map (·.current) = some 1)) = true := by decide +kernel

/-- R116, 7.9 Note 3: before a full backlog an OUTSIDE head that awaits its first event is forwarded, and the arrival is
accepted without a stall. -/
theorem test_fresh_head_before_a_full_backlog :
    let q := req .write 0 0 1 [5]
    goesTo (.requestArrival q)
      (setLane base 0 { head := some { req := q, standing := .fresh }, backlog := List.replicate 8 q })
      (fun t => decide (t.stall = none ∧ (getLane t 0).head = some { req := q, standing := .fresh } ∧
        (getLane t 0).backlog.length = 8 ∧ t.port.q1.length = 1)) = true := by decide +kernel

/-- R134, R144, R146: a count loaded after a tick is delivered is not lowered by it, and TICK marks only what has a
count. -/
theorem test_a_tick_ages_no_later_count :
    goesTo (.headEvent 0) (delivered (reading (ctx0 .collecting))) (fun t =>
      decide (getFence t 0 = some (heldRead 6)) && !readDue t 0) = true ∧
    goesTo (.retire) (delivered (ordered (withCtx base (ctx0 .verified)) 5 0 0 [])) (fun t =>
      decide ((getCtx t 0).guardCount = some 7) && !ctxDue t 0) = true ∧
    goesTo .ladderComplete (delivered (buildingFirst (withCtx base (ctx0 .priming)))) (fun t =>
      decide ((getCtx t 0).idle = some 5) && !ctxDue t 0) = true ∧
    goesTo .tick (ticking (withCtx base (ctx0 .collecting))) (fun t =>
      ctxDue t 0 && !ctxDue t 1 && !readDue t 0 && t.time.tickOpen) = true := by
  refine ⟨?_, ?_, ?_, ?_⟩ <;> decide +kernel

/-- R38: a WINDOW-APPLIED owed by a window fenced since carries ACTIVE, and one of a disabled definition OFF. -/
theorem test_applied_report_of_a_fenced_window :
    appliedReport (owing 26) 0 = .windowApplied 0 .active none ∧
      appliedReport base 1 = .windowApplied 1 .off none := by decide +kernel

/-- R80, R81: the mark of a big-endian trailer. -/
theorem test_trailer_big :
    (decodeTrailer .big ([0x7E, 0x3C, 0xA5, 0xD1] ++ List.replicate 28 (0 : Byte))).mark = trailerMark := by
  decide +kernel

/-- R175: STARTUP with sequence number 5, control page base 1 and three windows. -/
theorem test_startup_record :
    recordBytes { seq := 5, body := .startup 1 3 } = [1, 0, 0, 0, 5, 0, 0, 0, 1, 3] ++ List.replicate 22 0 := by
  decide +kernel

theorem test_record_lengths :
    (recordBytes { seq := 0, body := .windowFenced 1 2 }).length = 32 ∧ (engineStatus base).length = 256 ∧
      (windowStatus base 0).length = 64 := by decide +kernel

theorem test_no_word_spells_a_command : decodeTableWord 8 1 = none ∧ base.withFetchWord 8 1 = base := ⟨rfl, rfl⟩

end Sys2Proof.Tests
end

section
/-! The arithmetic of the Check Unit (chapter 1): reduction is the residue, the ladder gives the powers of the
key, and a contribution is the weighted sum of a piece's bytes. -/

namespace Sys2Proof.Machine

/-! ### Reduction (R2) -/

theorem foldDown_of_lt {x : Nat} (h : x < 4611686018427387904) (fuel : Nat) : foldDown fuel x = x := by
  cases fuel with
  | zero => rfl
  | succ fuel => exact if_neg (Nat.not_le.mpr h)

/-- 2^61 is 1 modulo p, so a fold takes off the quotient's multiple of p. -/
theorem fold61_add_mul (x : Nat) : fold61 x + P * (x / 2305843009213693952) = x := by
  unfold fold61 P
  omega

theorem fold61_mod (x : Nat) : fold61 x % P = x % P := by
  conv_rhs => rw [← fold61_add_mul x]
  exact (Nat.add_mul_mod_self_left _ _ _).symm

/-- For the values the Check Unit reduces, one fold leaves a value that one subtraction brings below p. -/
theorem fold61_lt {x : Nat} (h : x ≤ P * (P - 1)) : fold61 x < 2 * P := by
  unfold fold61
  unfold P at *
  omega

theorem reduce_eq_mod {x : Nat} (h : x ≤ P * (P - 1)) : reduce x = x % P := by
  have hlt : fold61 x < 2 * P := fold61_lt h
  have hfold : foldDown (x.log2 + 1) (fold61 x) = fold61 x :=
    foldDown_of_lt (hlt.trans (by decide)) _
  simp only [reduce, hfold, ← fold61_mod x]
  split
  next hle => rw [Nat.mod_eq_sub_mod hle, Nat.mod_eq_of_lt (by omega)]
  next hnot => rw [Nat.mod_eq_of_lt (by omega)]

theorem P_pos : 0 < P := by decide

theorem mod_P_lt (x : Nat) : x % P < P := Nat.mod_lt x P_pos

theorem mul_le_of_lt_P {x y : Nat} (hx : x < P) (hy : y < P) : x * y ≤ P * (P - 1) :=
  Nat.mul_le_mul hx.le (Nat.le_pred_of_lt hy)

theorem mul_add_byte_le_of_lt_P {x y : Nat} (hx : x < P) (hy : y < P) (d : Byte) :
    x * y + d.toNat ≤ P * (P - 1) := by
  have hmul : x * y ≤ (P - 1) * (P - 1) := Nat.mul_le_mul (Nat.le_pred_of_lt hx) (Nat.le_pred_of_lt hy)
  have hbyte : d.toNat < 256 := d.isLt
  unfold P at *
  omega

theorem add_add_le_of_lt_P {x y z : Nat} (hx : x < P) (hy : y < P) (hz : z < P) : x + y + z ≤ P * (P - 1) := by
  unfold P at *
  omega

theorem mulMod_eq {x y : Nat} (hx : x < P) (hy : y < P) : mulMod x y = x * y % P :=
  reduce_eq_mod (mul_le_of_lt_P hx hy)

theorem addMod_eq {x y : Nat} (hx : x < P) (hy : y < P) : addMod x y = (x + y) % P :=
  reduce_eq_mod (add_add_le_of_lt_P hx hy P_pos)

/-! ### The ladder and the powers (R5, R10) -/

theorem length_squares (n r : Nat) : (squares n r).length = n := by
  induction n generalizing r with
  | zero => rfl
  | succ n ih => simp [squares, ih]

theorem getElem?_squares {n k r : Nat} (hr : r < P) (hk : k < n) : (squares n r)[k]? = some (r ^ 2 ^ k % P) := by
  induction n generalizing k r with
  | zero => omega
  | succ n ih =>
    cases k with
    | zero => simp [squares, Nat.mod_eq_of_lt hr]
    | succ k =>
      calc (squares (n + 1) r)[k + 1]?
          = (squares n (r * r % P))[k]? := by rw [squares, mulMod_eq hr hr, List.getElem?_cons_succ]
        _ = some ((r * r % P) ^ 2 ^ k % P) := ih (mod_P_lt _) (by omega)
        _ = some (r ^ 2 ^ (k + 1) % P) := by rw [← Nat.pow_mod, ← pow_two, ← pow_mul, pow_succ']

/-- The bits of the offset, from the lowest, choose the squares whose product is the power. -/
theorem powerFrom_squares {n a acc r : Nat} (hr : r < P) (hacc : acc < P) (ha : a < 2 ^ n) :
    powerFrom (squares n r) a acc = acc * r ^ a % P := by
  induction n generalizing a acc r with
  | zero =>
    obtain rfl : a = 0 := by simpa using ha
    simp [squares, powerFrom, Nat.mod_eq_of_lt hacc]
  | succ n ih =>
    have hhalf : a / 2 < 2 ^ n := by rw [pow_succ] at ha; omega
    rw [squares, powerFrom, mulMod_eq hr hr, mulMod_eq hacc hr]
    rcases Nat.mod_two_eq_zero_or_one a with hbit | hbit
    · have hpow : r ^ a = (r * r) ^ (a / 2) := by
        rw [← pow_two, ← pow_mul]; congr 1; omega
      rw [hbit, if_neg (by decide), ih (mod_P_lt _) hacc hhalf, hpow, Nat.mul_mod, ← Nat.pow_mod, ← Nat.mul_mod]
    · have hpow : r ^ a = r * (r * r) ^ (a / 2) := by
        rw [← pow_two, ← pow_mul, ← pow_succ']; congr 1; omega
      rw [hbit, if_pos rfl, ih (mod_P_lt _) (mod_P_lt _) hhalf, hpow, Nat.mul_mod, Nat.mod_mod, ← Nat.pow_mod,
        ← Nat.mul_mod, mul_assoc]

theorem powerAt_ladderOf {r a : Nat} (hr : r < P) (ha : a < 67108864) : powerAt (ladderOf r) a = r ^ a % P := by
  rw [powerAt, ladderOf, powerFrom_squares hr (by decide) ha, one_mul]

/-! ### Contributions (R11) -/

theorem weightedSum_eq_pow_mul (r a : Nat) (x : List Byte) : weightedSum r a x = r ^ a * weightedSum r 0 x := by
  induction x generalizing a with
  | nil => rfl
  | cons d x ih =>
    simp only [weightedSum]
    rw [ih (a + 1), ih (0 + 1)]
    ring

theorem weightedSum_append (r a : Nat) (x y : List Byte) :
    weightedSum r a (x ++ y) = weightedSum r a x + weightedSum r (a + x.length) y := by
  induction x generalizing a with
  | nil => simp [weightedSum]
  | cons d x ih =>
    have hnext : a + 1 + x.length = a + (d :: x).length := by rw [List.length_cons]; omega
    rw [List.cons_append, weightedSum, weightedSum, ih, hnext, add_assoc]

theorem horner_eq {r : Nat} (hr : r < P) (x : List Byte) : horner r x = weightedSum r 0 x % P := by
  induction x with
  | nil => rfl
  | cons d x ih =>
    have hsum : weightedSum r 0 (d :: x) = weightedSum r 0 x * r + d.toNat := by
      rw [weightedSum, weightedSum_eq_pow_mul r (0 + 1)]
      ring
    rw [horner, ih, reduce_eq_mod (mul_add_byte_le_of_lt_P (mod_P_lt _) hr d), hsum, Nat.add_mod, Nat.mod_mul_mod,
      ← Nat.add_mod]

theorem contribution_nil (ladder : List Nat) (a : Nat) : contribution ladder a [] = 0 := by
  rw [contribution, horner, mulMod, Nat.mul_zero, reduce_eq_mod (Nat.zero_le _), Nat.zero_mod]

theorem contribution_ladderOf {r a : Nat} {x : List Byte} (hr : r < P) (h : a + x.length ≤ 67108864) :
    contribution (ladderOf r) a x = weightedSum r a x % P := by
  cases x with
  | nil => exact contribution_nil _ _
  | cons d x =>
    have ha : a < 67108864 := by simp only [List.length_cons] at h; omega
    have hkey : (ladderOf r).headD 0 = r := rfl
    rw [contribution, hkey, powerAt_ladderOf hr ha, horner_eq hr, mulMod_eq (mod_P_lt _) (mod_P_lt _), ← Nat.mul_mod,
      ← weightedSum_eq_pow_mul]

end Sys2Proof.Machine

open Sys2Proof Sys2Proof.Machine

/-- Settles O45: every listed source stays within p (p - 1), where one fold and one subtraction give the residue. -/
theorem reductionIsTheResidue : Obligations.ReductionIsTheResidue := by
  refine ⟨fun x hx => ?_, fun k => k.isLt.le.trans (by decide), fun x y hx hy => mulMod_eq hx hy,
    fun x y d hx hy => reduce_eq_mod (mul_add_byte_le_of_lt_P hx hy d),
    fun x y z hx hy hz => ⟨addMod_eq hx hy, reduce_eq_mod (add_add_le_of_lt_P hx hy hz)⟩⟩
  rw [reduce_eq_mod hx]
  exact ⟨rfl, mod_P_lt x⟩

/-- Settles O46, by the ladder's recursion: each entry is a repeated square, and the bits of the offset choose among
them. -/
theorem powersFromTheLadder : Obligations.PowersFromTheLadder := fun r hr =>
  ⟨length_squares 26 r, fun _ hk => getElem?_squares hr hk, fun _ ha => powerAt_ladderOf hr ha⟩

/-- Settles O47: Horner's rule times the power at the offset is the weighted sum, and that sum is additive over a cut. -/
theorem contributionIsTheWeightedSum : Obligations.ContributionIsTheWeightedSum := by
  intro r a x y hr h
  have hx : contribution (ladderOf r) a x = weightedSum r a x % P := contribution_ladderOf hr (by omega)
  have hy : contribution (ladderOf r) (a + x.length) y = weightedSum r (a + x.length) y % P :=
    contribution_ladderOf hr h
  refine ⟨hx, ?_⟩
  rw [contribution_ladderOf hr (by rw [List.length_append]; omega), hx, hy, weightedSum_append, Nat.add_mod]

end

section
/-! Extent lists (chapter 4): what a list covers, and how the range of a write is divided against it. Both lists of a
division are built by putting nonempty ranges before a list, so each fact about `prependRange` serves the two. -/

namespace Sys2Proof.Machine

/-! ### Form and coverage of a list (R67) -/

theorem covered_cons (p : Extent) (ps : List Extent) (x : Nat) :
    covered (p :: ps) x ↔ (p.start ≤ x ∧ x < p.stop) ∨ covered ps x :=
  List.exists_mem_cons_iff _ _ _

@[simp] theorem not_covered_nil (x : Nat) : ¬ covered [] x := by simp [covered]

/-- R67 for all pairs: the first extent ends before every other one, not only before the next. -/
theorem extentsWf_cons (p : Extent) (ps : List Extent) :
    extentsWf (p :: ps) = true ↔
      p.start < p.stop ∧ (∀ q ∈ ps, p.stop < q.start) ∧ extentsWf ps = true := by
  induction ps generalizing p with
  | nil => simp [extentsWf]
  | cons q ps ih =>
    simp only [extentsWf, Bool.and_eq_true, decide_eq_true_eq, and_assoc, List.forall_mem_cons]
    refine ⟨fun ⟨hp, hpq, hwf⟩ => ⟨hp, hpq, fun r hr => ?_, hwf⟩, fun ⟨hp, hpq, _, hwf⟩ => ⟨hp, hpq, hwf⟩⟩
    obtain ⟨hq, hafter, -⟩ := (ih q).mp hwf
    exact (hpq.trans hq).trans (hafter r hr)

/-! ### A range put before a list -/

/-- The range [e, f) before the list, where it is nonempty. -/
def prependRange (e f : Nat) (ps : List Extent) : List Extent :=
  if e < f then { start := e, stop := f } :: ps else ps

theorem overlapPieces_cons (e f : Nat) (p : Extent) (ps : List Extent) :
    overlapPieces e f (p :: ps) = prependRange (max e p.start) (min f p.stop) (overlapPieces e f ps) := rfl

theorem newPieces_nil (e f : Nat) : newPieces e f [] = prependRange e f [] := rfl

theorem newPieces_cons (e f : Nat) (p : Extent) (ps : List Extent) :
    newPieces e f (p :: ps) = prependRange e p.start (newPieces p.stop f ps) := rfl

theorem mem_prependRange {e f : Nat} {p : Extent} {ps : List Extent} :
    p ∈ prependRange e f ps ↔ (e < f ∧ p = { start := e, stop := f }) ∨ p ∈ ps := by
  unfold prependRange
  split <;> simp [*]

theorem covered_prependRange (e f : Nat) (ps : List Extent) (x : Nat) :
    covered (prependRange e f ps) x ↔ (e ≤ x ∧ x < f) ∨ covered ps x := by
  unfold prependRange
  split
  · exact covered_cons _ _ _
  · have hempty : ¬ (e ≤ x ∧ x < f) := by omega
    simp [hempty]

theorem totalLength_prependRange (e f : Nat) (ps : List Extent) :
    totalLength (prependRange e f ps) = (f - e) + totalLength ps := by
  unfold prependRange
  split
  · rfl
  · omega

theorem extentsWf_prependRange {e f : Nat} {ps : List Extent} (hwf : extentsWf ps = true)
    (hafter : ∀ p ∈ ps, f < p.start) : extentsWf (prependRange e f ps) = true := by
  unfold prependRange
  split
  next hlt => exact (extentsWf_cons _ _).mpr ⟨hlt, hafter, hwf⟩
  next => exact hwf

/-! ### The overlapped pieces (R69) -/

theorem mem_overlapPieces {e f : Nat} {p : Extent} {list : List Extent} (hp : p ∈ overlapPieces e f list) :
    ∃ q ∈ list, p.start = max e q.start ∧ p.stop = min f q.stop := by
  induction list with
  | nil => simp [overlapPieces] at hp
  | cons q list ih =>
    rw [overlapPieces_cons, mem_prependRange] at hp
    obtain ⟨-, rfl⟩ | hp := hp
    · exact ⟨q, List.mem_cons_self, rfl, rfl⟩
    · obtain ⟨r, hr, hclip⟩ := ih hp
      exact ⟨r, List.mem_cons_of_mem q hr, hclip⟩

theorem overlapPieces_bounds {e f : Nat} {p : Extent} {list : List Extent} (hp : p ∈ overlapPieces e f list) :
    e ≤ p.start ∧ p.stop ≤ f := by
  obtain ⟨q, -, hstart, hstop⟩ := mem_overlapPieces hp
  omega

theorem covered_overlapPieces (e f : Nat) (list : List Extent) (x : Nat) :
    covered (overlapPieces e f list) x ↔ (e ≤ x ∧ x < f) ∧ covered list x := by
  induction list with
  | nil => simp [overlapPieces]
  | cons q list ih =>
    rw [overlapPieces_cons, covered_prependRange, covered_cons, ih, max_le_iff, lt_min_iff]
    tauto

theorem extentsWf_overlapPieces (e f : Nat) {list : List Extent} (hwf : extentsWf list = true) :
    extentsWf (overlapPieces e f list) = true := by
  induction list with
  | nil => rfl
  | cons q list ih =>
    obtain ⟨-, hafter, hrest⟩ := (extentsWf_cons q list).mp hwf
    refine extentsWf_prependRange (ih hrest) fun p hp => ?_
    obtain ⟨r, hr, hstart, -⟩ := mem_overlapPieces hp
    have hqr : q.stop < r.start := hafter r hr
    omega

/-! ### The new pieces (R69) -/

/-- A list of pieces of the range [e, f): in the form of R67, each within the range. -/
structure PiecesOf (e f : Nat) (ps : List Extent) : Prop where
  wf     : extentsWf ps = true
  order  : e ≤ f
  bounds : ∀ p ∈ ps, e ≤ p.start ∧ p.stop ≤ f

theorem overlapPieces_piecesOf {e f : Nat} {list : List Extent} (hwf : extentsWf list = true) (hef : e ≤ f) :
    PiecesOf e f (overlapPieces e f list) :=
  ⟨extentsWf_overlapPieces e f hwf, hef, fun _ => overlapPieces_bounds⟩

/-- The first piece cuts its range in two: a gap, the piece, and the range of the other pieces. -/
theorem PiecesOf.cons {e f : Nat} {p : Extent} {ps : List Extent} (h : PiecesOf e f (p :: ps)) :
    e ≤ p.start ∧ p.start < p.stop ∧ PiecesOf p.stop f ps := by
  obtain ⟨hp, hafter, hrest⟩ := (extentsWf_cons p ps).mp h.wf
  obtain ⟨hfirst, hbounds⟩ := List.forall_mem_cons.mp h.bounds
  exact ⟨hfirst.1, hp, hrest, hfirst.2, fun q hq => ⟨(hafter q hq).le, (hbounds q hq).2⟩⟩

theorem PiecesOf.bounds_of_covered {e f x : Nat} {ps : List Extent} (h : PiecesOf e f ps) (hx : covered ps x) :
    e ≤ x ∧ x < f := by
  obtain ⟨p, hp, hstart, hstop⟩ := hx
  have hbounds : e ≤ p.start ∧ p.stop ≤ f := h.bounds p hp
  omega

theorem le_start_of_mem_newPieces {e f : Nat} {ps : List Extent} (h : PiecesOf e f ps) {q : Extent}
    (hq : q ∈ newPieces e f ps) : e ≤ q.start := by
  induction ps generalizing e with
  | nil =>
    rw [newPieces_nil, mem_prependRange] at hq
    obtain ⟨-, rfl⟩ | hq := hq
    · exact le_rfl
    · simp at hq
  | cons p ps ih =>
    obtain ⟨hgap, hp, hrest⟩ := h.cons
    rw [newPieces_cons, mem_prependRange] at hq
    obtain ⟨-, rfl⟩ | hq := hq
    · exact le_rfl
    · exact (hgap.trans hp.le).trans (ih hrest hq)

/-- Two gaps have a nonempty piece between them, so they do not touch. -/
theorem extentsWf_newPieces {e f : Nat} {ps : List Extent} (h : PiecesOf e f ps) :
    extentsWf (newPieces e f ps) = true := by
  induction ps generalizing e with
  | nil => exact extentsWf_prependRange rfl (by simp)
  | cons p ps ih =>
    obtain ⟨-, hp, hrest⟩ := h.cons
    exact extentsWf_prependRange (ih hrest) fun q hq => hp.trans_le (le_start_of_mem_newPieces hrest hq)

theorem covered_newPieces {e f : Nat} {ps : List Extent} (h : PiecesOf e f ps) (x : Nat) :
    covered (newPieces e f ps) x ↔ (e ≤ x ∧ x < f) ∧ ¬ covered ps x := by
  induction ps generalizing e with
  | nil => simp [newPieces_nil, covered_prependRange]
  | cons p ps ih =>
    obtain ⟨hgap, hp, hrest⟩ := h.cons
    have hlater : covered ps x → p.stop ≤ x ∧ x < f := hrest.bounds_of_covered
    have hstop : p.stop ≤ f := hrest.order
    rw [newPieces_cons, covered_prependRange, covered_cons, ih hrest]
    grind

theorem totalLength_newPieces_add {e f : Nat} {ps : List Extent} (h : PiecesOf e f ps) :
    totalLength (newPieces e f ps) + totalLength ps = f - e := by
  induction ps generalizing e with
  | nil => rw [newPieces_nil, totalLength_prependRange]; rfl
  | cons p ps ih =>
    obtain ⟨hgap, hp, hrest⟩ := h.cons
    have hsum : totalLength (newPieces p.stop f ps) + totalLength ps = f - p.stop := ih hrest
    have hstop : p.stop ≤ f := hrest.order
    rw [newPieces_cons, totalLength_prependRange, totalLength]
    omega

/-! ### The effective range (R68) -/

theorem divide_stop_bounds (list : List Extent) (len : Option Nat) (a n : Nat) :
    a ≤ (divide list len a n).stop ∧ (divide list len a n).stop ≤ a + n := by
  cases len <;> simp only [divide] <;> omega

theorem lt_divide_stop_iff (list : List Extent) (len : Option Nat) {a x : Nat} (n : Nat) (hx : a ≤ x) :
    x < (divide list len a n).stop ↔ x < a + n ∧ len.all (fun m => decide (x < m)) = true := by
  cases len with
  | none => simp [divide]
  | some m => simp only [divide, Option.all_some, decide_eq_true_eq]; omega

end Sys2Proof.Machine

open Sys2Proof Sys2Proof.Machine

/-- Settles O48: the overlapped pieces are the list clipped to the effective range, and the new ones, by induction on
them, are the gaps they leave in it. -/
theorem divisionOfAWrite : Obligations.DivisionOfAWrite := by
  intro list len a n hwf
  obtain ⟨hstart, hend⟩ := divide_stop_bounds list len a n
  have hpieces : PiecesOf a (divide list len a n).stop (divide list len a n).overlap :=
    overlapPieces_piecesOf hwf hstart
  have hoverlap : ∀ x : Nat, covered (divide list len a n).overlap x ↔
      (a ≤ x ∧ x < (divide list len a n).stop) ∧ covered list x := covered_overlapPieces a _ list
  refine ⟨fun x => and_congr_right (lt_divide_stop_iff list len n), hoverlap, fun x => ?_, hpieces.wf,
    extentsWf_newPieces hpieces, ?_⟩
  · exact (covered_newPieces hpieces x).trans
      (and_congr_right fun hx => not_congr ((hoverlap x).trans (and_iff_right hx)))
  · have hsum : totalLength (divide list len a n).fresh + totalLength (divide list len a n).overlap =
        (divide list len a n).stop - a := totalLength_newPieces_add hpieces
    have hstray : (divide list len a n).stray = a + n - (divide list len a n).stop := rfl
    omega

end

section
/-! What a step can do, said once. A step changes the part of the state that the invariants of Sys2Proof/Safety.lean
speak of by a chain of moves. Each move is one change that every invariant can be checked against on its own: what the
rules change together (R48, R55, R102, R104) is one move. -/

set_option Elab.async false

namespace Sys2Proof.Machine

open Relation

/-! ### The parts of a change -/

/-- Two states agree in everything that an invariant speaks of, but for ATTN. -/
structure SameCore (s t : State) : Prop where
  state    : t.engine.state = s.engine.state := by rfl
  cpb      : t.engine.cpb = s.engine.cpb := by rfl
  load     : t.engine.load = s.engine.load := by rfl
  faultN   : t.engine.faultN = s.engine.faultN := by rfl
  lanes    : t.lanes = s.lanes := by rfl
  stall    : t.stall = s.stall := by rfl
  windows  : t.windows = s.windows := by rfl
  ctxs     : t.ctxs = s.ctxs := by rfl
  pool     : t.pool = s.pool := by rfl
  builder  : t.builder = s.builder := by rfl
  slots    : t.slots = s.slots := by rfl
  fence    : t.fence = s.fence := by rfl
  list     : t.report.list = s.report.list := by rfl
  producer : t.report.producer = s.report.producer := by rfl
  consumer : t.report.consumer = s.report.consumer := by rfl
  inFlight : t.report.inFlight = s.report.inFlight := by rfl
  shadow   : t.orders.shadow = s.orders.shadow := by rfl

/-- A change of a context that leaves what the invariants say of it: counts, bytes and the reports it owes. -/
structure MinorCtx (x y : Context) : Prop where
  state      : y.state = x.state := by rfl
  binding    : y.binding = x.binding := by rfl
  first      : y.first = x.first := by rfl
  extents    : y.extents = x.extents := by rfl
  reconCount : y.reconCount = x.reconCount := by rfl
  owed       : y.owed ≤ x.owed := by exact Nat.le_refl _
  acc        : x.acc < P → y.acc < P := by exact id
  free       : x = Context.free → y = Context.free

/-- A change of a window's entry that leaves its definitions and its bound count. -/
structure MinorWin (x y : Window) : Prop where
  off    : y.state = .off ↔ x.state = .off := by rfl
  defn   : y.defn = x.defn := by rfl
  staged : y.staged = x.staged := by rfl
  bound  : y.bound = x.bound := by rfl

/-- A head that may leave its lane without a word to the Reconcile and Fence Units. -/
def HeadFree (s : State) (l : LaneId) : Prop :=
  s.engine.state ≠ .running ∨ (getLane s l).head.bind (·.hold) = none

/-- R48, steps 1 to 4, and R78: a context enters its first final state, its list is returned and its reconciles are
detached. -/
def finalise (s : State) (c : CtxId) (f : FinalRec) : State :=
  detachSlots (returnList (modCtx s c fun cx => finalContext cx f) c) c

/-- R33: a window whose bound count is 0 takes its staged definition. -/
def takeStaged (x : Window) : Window :=
  if x.bound = 0 then x.staged.elim x (appliedEntry x) else x

/-- R55, R33: a context returns to FREE, its window counts one bound context less, and a window that it leaves empty takes
its staged definition. -/
def freeBound (s : State) (c : CtxId) (w : WinId) : State :=
  modWin (setCtx s c Context.free) w fun x => takeStaged { x with bound := x.bound - 1 }

/-- R56, R128, R108, R33: what CLEAR-ALL leaves, as far as the invariants speak of it. -/
structure ClearedFrom (s t : State) : Prop where
  running  : s.engine.state = .running
  engine   : t.engine = s.engine
  stall    : t.stall = s.stall
  backlog  : ∀ l, (getLane t l).backlog = (getLane s l).backlog
  noHold   : ∀ l, (getLane t l).head.bind (·.hold) = none
  heads    : ∀ l, ∀ h ∈ (getLane t l).head, ∃ k ∈ (getLane s l).head, k.req = h.req
  slots    : ∀ l, getSlot t l = .empty
  fence    : ∀ l, (getFence t l).isSome = true → (getFence s l).isSome = true ∧ ¬ heldFor s l .fence
  ctxs     : ∀ c, getCtx t c = Context.free
  pool     : t.pool = { s.pool with level := 2048 }
  builder  : t.builder = { building := none, queue := [] }
  bound    : ∀ w, (getWin t w).bound = 0 ∧ (getWin t w).staged = none
  regions  : ∀ w, (((getWin s w).state = .off ↔ (getWin s w).defn = none) →
      ((getWin t w).state = .off ↔ (getWin t w).defn = none)) ∧
    describedRegions (getWin t w) ⊆ describedRegions (getWin s w)
  list     : s.report.list.length ≤ 32 → t.report.list.length ≤ 32
  counts   : t.report.producer = s.report.producer ∧ t.report.consumer = s.report.consumer ∧
    t.report.inFlight = s.report.inFlight
  shadow   : t.orders.shadow = s.orders.shadow

/-! ### The moves -/

/-- One change that a step makes. A record is built while RUNNING, or, with `ld`, by the last event of the load. -/
inductive Move (ld : Bool) (s : State) : State → Prop
  | quiet {t : State} (h : SameCore s t) : Move ld s t
  | headGone (l : LaneId) (h : HeadFree s l) : Move ld s (clearHead s l)
  | held (l : LaneId) (r : Request) (h : HoldReason) (hrun : s.engine.state = .running) (ha : awaits s l r)
      (hh : h = .priming ∨ h = .conflict) : Move ld s (holdHead s l r h)
  | heldRead (l : LaneId) (r : Request) (g : FenceRec) (hrun : s.engine.state = .running) (ha : awaits s l r) :
      Move ld s (setFence (holdHead s l r .fence) l (some g))
  | readGone (l : LaneId) (hf : (getFence s l).isSome = true) (hh : (getLane s l).head.isSome = true) :
      Move ld s (setFence (clearHead s l) l none)
  | readAged (l : LaneId) (g : FenceRec) (hf : (getFence s l).isSome = true) : Move ld s (setFence s l (some g))
  | released (q : Request → HoldReason → Bool) (hq : ∀ r h, q r h = true → h = .priming ∨ h = .conflict) :
      Move ld s (releaseHeads s q)
  | accepted (r : Request) (hr : r.wf = true) : Move ld s (acceptOnto s r)
  | movedUp (l : LaneId) (h : (getLane s l).head = none) : Move ld s (setLane s l (moveUp (getLane s l)))
  | unstalled (l : LaneId) : Move ld s (endStall s l)
  | attached (l : LaneId) (r : Request) (c : CtxId) (q : ReconRec) (hrun : s.engine.state = .running)
      (ha : awaits s l r) (hc : (getCtx s c).state = .collecting) (hq : q.write = r) :
      Move ld s (holdHead (modCtx (setSlot s l (.attached c q)) c fun cx =>
        { cx with reconCount := cx.reconCount + 1 }) l r .reconcile)
  | noted (l : LaneId) : Move ld s (setSlot s l (markSlot (getSlot s l)))
  | reconciled (l : LaneId) (c : CtxId) (q : ReconRec) (old : List Byte) (hs : getSlot s l = .attached c q)
      (hrun : s.engine.state = .running) :
      Move ld s (setSlot (clearHead (modCtx s c fun cx => correctedContext cx q old) l) l .empty)
  | slotFreed (l : LaneId) (hs : getSlot s l ≠ .empty)
      (hc : ∀ c q, getSlot s l = .attached c q → s.engine.state = .running ∧ (getCtx s c).state ≠ .collecting) :
      Move ld s (setSlot (clearHead s l) l .empty)
  | slotFailed (l : LaneId) (c : CtxId) (q : ReconRec) (f : FinalRec) (hs : getSlot s l = .attached c q)
      (hc : (getCtx s c).state = .collecting) (hf : f.state.isFinal = true) :
      Move ld s (finalise (setSlot (clearHead s l) l .empty) c f)
  | finished (c : CtxId) (f : FinalRec) (b : Builder) (hf : f.state.isFinal = true)
      (hc : ((getCtx s c).state = .collecting ∧ b = s.builder) ∨
        (((getCtx s c).state = .priming ∨ (getCtx s c).state = .collecting) ∧ b = abandonBuild s.builder c)) :
      Move ld s (finalise { s with builder := b } c f)
  | second (c : CtxId) (f : FinalRec) (hc : (getCtx s c).state = .verified)
      (hf : f.state = .tainted ∨ f.state = .corrupted) :
      Move ld s (modCtx s c fun cx => { cx with state := f.state, second := some f })
  | owes (c : CtxId) (hc : (getCtx s c).state.isFinal = true) :
      Move ld s (modCtx s c fun cx => { cx with owed := cx.owed + 1 })
  | ctx (c : CtxId) (f : Context → Context) (h : MinorCtx (getCtx s c) (f (getCtx s c))) : Move ld s (modCtx s c f)
  | guarded (c : CtxId) (n : Nat) (hc : (getCtx s c).state.isFinal = true) (ho : (getCtx s c).owed = 0) :
      Move ld s (modCtx s c fun cx => { cx with state := .guard, guardCount := some n })
  | freed (c : CtxId) (b : Binding) (hb : (getCtx s c).binding = some b) (hp : (getCtx s c).state ≠ .priming)
      (hc : (getCtx s c).state ≠ .collecting) : Move ld s (freeBound s c b.win)
  | unbound (c : CtxId) (hb : (getCtx s c).binding = none) (hp : (getCtx s c).state ≠ .priming)
      (hc : (getCtx s c).state ≠ .collecting) : Move ld s (setCtx s c Context.free)
  | bound (c : CtxId) (w : WinId) (bay key : Nat) (len : Option Nat) (objId : Option Word64)
      (hc : (getCtx s c).state = .free) (hw : lookup s w bay = none) : Move ld s (bindContext s c w bay key len objId)
  | collects (c : CtxId) (key n : Nat) (hb : s.builder.building = some c) (hc : (getCtx s c).state = .priming) :
      Move ld s (modCtx { s with builder := nextBuild s.builder } c fun cx => collectingContext cx key n)
  | built : Move ld s { s with builder := nextBuild s.builder }
  | inserted (c : CtxId) (e f : Nat) (hc : (getCtx s c).state = .collecting) (hef : e < f)
      (hp : meetCount e f (getCtx s c).extents = 0 → s.pool.level ≠ 0) : Move ld s (insertPieces s c e f)
  | win (w : WinId) (f : Window → Window) (h : MinorWin (getWin s w) (f (getWin s w))) : Move ld s (modWin s w f)
  | staged (w : WinId) (t : TakenDef) (hs : s.engine.state ≠ .reset) (hb : (getWin s w).bound ≠ 0)
      (hv : validate s w (some t) = none) : Move ld s (modWin s w fun x => { x with staged := some t })
  | applied (w : WinId) (t : TakenDef) (hs : s.engine.state ≠ .reset ∨ s.engine.load ≠ .idle) (hv : validate s w (some t) = none) :
      Move ld s (modWin s w fun x => appliedEntry x t)
  | cleared {t : State} (h : ClearedFrom s t) : Move ld s t
  | builds (rs : List Report) (hl : ld = true ∨ s.report.list.length + rs.length ≤ 32)
      (hr : ld = true ∨ s.engine.state = .running) : Move ld s (build s rs)
  | departs (r : Record) (rest : List Record) (hl : s.report.list = r :: rest) (hm : mayLeave s = true) :
      Move ld s (modReport s fun u => { u with list := rest, inFlight := some r })
  | counted (h : s.report.inFlight.isSome = true) :
      Move ld s (modReport s fun u => { u with producer := u.producer + 1, inFlight := none })
  | consumed (v : Word32) (h : consumerOk s v = true) : Move ld s (modReport s fun u => { u with consumer := v })
  | zeroed : Move ld s (modReport s fun u => { u with producer := 0, consumer := 0 })
  | copied (m : List Host.Cell)
      (hwf : shadowWf s.orders.shadow = true → shadowWf m = true)
      (ho : (∀ c ∈ s.orders.shadow, softwareOwned c.1 = true) → ∀ c ∈ m, softwareOwned c.1 = true) :
      Move ld s (modOrders s fun o => { o with shadow := m })
  | strapped (cpb : BitVec 8) (h : s.engine.state = .reset) (st : EngineState) (l : LoadPhase)
      (hst : (st = .bypassed ∧ l = s.engine.load) ∨ st = .loading) :
      Move ld s { s with engine := { s.engine with state := st, cpb := cpb, load := l } }
  | loads (l : LoadPhase) (h : s.engine.load ≠ .idle) : Move ld s { s with engine := { s.engine with load := l } }
  | runs (h : s.engine.load ≠ .idle) (hld : ld = true) :
      Move ld s { s with engine := { s.engine with state := .running, load := .idle } }
  | halts : Move ld s (enterHalted s)

/-- A chain of moves. -/
abbrev Moves (ld : Bool) : State → State → Prop := ReflTransGen (Move ld)

theorem Move.moves {ld : Bool} {s t : State} (h : Move ld s t) : Moves ld s t := ReflTransGen.single h

theorem SameCore.moves {ld : Bool} {s t : State} (h : SameCore s t) : Moves ld s t := (Move.quiet h).moves

/-- A property that every move keeps is kept by a chain. -/
theorem Moves.keep {ld : Bool} {I : State → Prop} (hI : ∀ {s t}, I s → Move ld s t → I t) {s t : State}
    (h : Moves ld s t) (hs : I s) : I t := by
  induction h with
  | refl => exact hs
  | tail _ hm ih => exact hI ih hm

/-- A fold each of whose steps is a chain is a chain, where the steps keep a property that they need. -/
theorem Moves.foldl {ld : Bool} {α : Type} {I : State → Prop} {f : State → α → State} (hI : ∀ s x, I s → I (f s x))
    (hf : ∀ s x, I s → Moves ld s (f s x)) (xs : List α) {s : State} (hs : I s) : Moves ld s (xs.foldl f s) := by
  induction xs generalizing s with
  | nil => exact .refl
  | cons x xs ih => exact (hf s x hs).trans (ih (hI s x hs))

theorem MinorCtx.of_state {x y : Context} (h : x.state ≠ .free) : x = Context.free → y = Context.free :=
  fun e => absurd (congrArg Context.state e) h

/-! ### What the operations of the moves leave unchanged -/

@[simp] theorem acceptOnto_frame (s : State) (r : Request) :
    (acceptOnto s r).engine = s.engine ∧ (acceptOnto s r).upOut = s.upOut ∧ (acceptOnto s r).port = s.port ∧
    (acceptOnto s r).windows = s.windows ∧ (acceptOnto s r).ctxs = s.ctxs ∧ (acceptOnto s r).serial = s.serial ∧
    (acceptOnto s r).pool = s.pool ∧ (acceptOnto s r).builder = s.builder ∧ (acceptOnto s r).slots = s.slots ∧
    (acceptOnto s r).fence = s.fence ∧ (acceptOnto s r).time = s.time ∧ (acceptOnto s r).report = s.report ∧
    (acceptOnto s r).orders = s.orders ∧ (acceptOnto s r).sweeper = s.sweeper ∧
    (acceptOnto s r).choices = s.choices ∧ (acceptOnto s r).pending = s.pending := by
  rcases acceptOnto_cases s r with ⟨-, -, h⟩ | ⟨-, h⟩ | ⟨-, -, h⟩ | ⟨-, -, h⟩ <;> simp [h]

@[simp] theorem endStall_frame (s : State) (l : LaneId) :
    (endStall s l).engine = s.engine ∧ (endStall s l).upOut = s.upOut ∧ (endStall s l).port = s.port ∧
    (endStall s l).windows = s.windows ∧ (endStall s l).ctxs = s.ctxs ∧ (endStall s l).serial = s.serial ∧
    (endStall s l).pool = s.pool ∧ (endStall s l).builder = s.builder ∧ (endStall s l).slots = s.slots ∧
    (endStall s l).fence = s.fence ∧ (endStall s l).time = s.time ∧ (endStall s l).report = s.report ∧
    (endStall s l).orders = s.orders ∧ (endStall s l).sweeper = s.sweeper ∧ (endStall s l).counters = s.counters ∧
    (endStall s l).choices = s.choices ∧ (endStall s l).pending = s.pending := by
  unfold endStall
  repeat' split
  all_goals simp

@[simp] theorem enterHalted_frame (s : State) :
    (enterHalted s).stall = s.stall ∧ (enterHalted s).windows = s.windows ∧ (enterHalted s).ctxs = s.ctxs ∧
    (enterHalted s).serial = s.serial ∧ (enterHalted s).pool = s.pool ∧ (enterHalted s).report = s.report ∧
    (enterHalted s).orders = s.orders ∧ (enterHalted s).counters = s.counters ∧
    (enterHalted s).choices = s.choices ∧ (enterHalted s).pending = s.pending := by
  have h := fun {β : Type} (g : State → β) (hg : ∀ x l, g (haltHead x l) = g x) => foldl_unchanged g haltHead hg allLanes s
  simp only [enterHalted]
  exact ⟨h _ (by simp), h _ (by simp), h _ (by simp), h _ (by simp), h _ (by simp), h _ (by simp), h _ (by simp),
    h _ (by simp), h _ (by simp), h _ (by simp)⟩

theorem enterHalted_engine (s : State) :
    (enterHalted s).engine = { s.engine with state := .halted, attn := false, faultN := false, load := .idle } := by
  simp only [enterHalted]
  rw [foldl_unchanged (fun x => x.engine) haltHead (by simp) allLanes s]

@[simp] theorem finalise_frame (s : State) (c : CtxId) (f : FinalRec) :
    (finalise s c f).engine = s.engine ∧ (finalise s c f).lanes = s.lanes ∧ (finalise s c f).stall = s.stall ∧
    (finalise s c f).upOut = s.upOut ∧ (finalise s c f).port = s.port ∧ (finalise s c f).windows = s.windows ∧
    (finalise s c f).serial = s.serial ∧ (finalise s c f).builder = s.builder ∧ (finalise s c f).fence = s.fence ∧
    (finalise s c f).time = s.time ∧ (finalise s c f).report = s.report ∧ (finalise s c f).orders = s.orders ∧
    (finalise s c f).sweeper = s.sweeper ∧ (finalise s c f).choices = s.choices ∧
    (finalise s c f).pending = s.pending := by
  simp [finalise]

@[simp] theorem freeBound_frame (s : State) (c : CtxId) (w : WinId) :
    (freeBound s c w).engine = s.engine ∧ (freeBound s c w).lanes = s.lanes ∧ (freeBound s c w).stall = s.stall ∧
    (freeBound s c w).upOut = s.upOut ∧ (freeBound s c w).port = s.port ∧ (freeBound s c w).serial = s.serial ∧
    (freeBound s c w).pool = s.pool ∧ (freeBound s c w).builder = s.builder ∧ (freeBound s c w).slots = s.slots ∧
    (freeBound s c w).fence = s.fence ∧ (freeBound s c w).time = s.time ∧ (freeBound s c w).report = s.report ∧
    (freeBound s c w).orders = s.orders ∧ (freeBound s c w).sweeper = s.sweeper ∧
    (freeBound s c w).counters = s.counters ∧ (freeBound s c w).choices = s.choices ∧
    (freeBound s c w).pending = s.pending := by
  simp [freeBound]

@[simp] theorem insertPieces_frame (s : State) (c : CtxId) (e f : Nat) :
    (insertPieces s c e f).engine = s.engine ∧ (insertPieces s c e f).lanes = s.lanes ∧
    (insertPieces s c e f).stall = s.stall ∧ (insertPieces s c e f).upOut = s.upOut ∧
    (insertPieces s c e f).port = s.port ∧ (insertPieces s c e f).windows = s.windows ∧
    (insertPieces s c e f).serial = s.serial ∧ (insertPieces s c e f).builder = s.builder ∧
    (insertPieces s c e f).slots = s.slots ∧ (insertPieces s c e f).fence = s.fence ∧
    (insertPieces s c e f).time = s.time ∧ (insertPieces s c e f).report = s.report ∧
    (insertPieces s c e f).orders = s.orders ∧ (insertPieces s c e f).sweeper = s.sweeper ∧
    (insertPieces s c e f).counters = s.counters ∧ (insertPieces s c e f).choices = s.choices ∧
    (insertPieces s c e f).pending = s.pending := by
  simp [insertPieces, setPool]

end Sys2Proof.Machine
end

section
/-! Each shared operation as a chain of moves. -/

set_option Elab.async false

namespace Sys2Proof.Machine

open Relation

variable {ld : Bool} {s : State}

/-! ### The Memory Port, the lanes and the counters -/

theorem awaits.headFree {l : LaneId} {r : Request} (h : awaits s l r) : HeadFree s l := by
  refine .inr ?_
  rcases h with h | h <;> simp [h, Head.hold]

theorem forwardHead_moves {l : LaneId} (r : Request) (x : Option (CtxId × Word32)) (h : HeadFree s l) :
    Moves ld s (forwardHead s l r x) :=
  (SameCore.moves (t := forward s r x) {}).trans (Move.headGone (s := forward s r x) l h).moves

theorem partAnswer_moves {l : LaneId} (r : Request) (h : HeadFree s l) : Moves ld s (partAnswer s l r) :=
  ((SameCore.moves (t := answerError s r) {}).trans (Move.headGone (s := answerError s r) l h).moves).tail (.quiet {})

theorem holdPriming_moves {l : LaneId} {r : Request} (hrun : s.engine.state = .running) (ha : awaits s l r) :
    Moves ld s (holdPriming s l r) :=
  ((Move.held l r .priming hrun ha (.inl rfl)).moves).tail (.quiet {})

theorem holdRead_moves {l : LaneId} {r : Request} (t : Touch) (c : CtxId) (hrun : s.engine.state = .running)
    (ha : awaits s l r) : Moves ld s (holdRead s l r t c) :=
  ((SameCore.moves (t := readTaken s l) {}).trans
    (Move.heldRead (s := readTaken s l) l r _ hrun ha).moves).tail (.quiet {})

theorem modWin_counters_moves (w : WinId) (f : WinCounters → WinCounters) : Moves ld s (modWinCounters s w f) :=
  (Move.win w (fun x => { x with counters := f x.counters }) {}).moves

theorem releaseConflicts_moves (r : Request) : Moves ld s (releaseConflicts s r) :=
  (Move.released _ fun _ _ h => .inr (by simp only [Bool.and_eq_true, decide_eq_true_eq] at h; exact h.1)).moves

theorem releasePriming_moves (w : WinId) (bay : Nat) : Moves ld s (releasePriming s w bay) :=
  (Move.released _ fun _ _ h => .inl (by simp only [Bool.and_eq_true, decide_eq_true_eq] at h; exact h.1)).moves

/-! ### Records (R169 to R171) -/

theorem hasRoom_length {n : Nat} (h : hasRoom s n = true) : s.report.list.length + n ≤ 32 := by
  simp only [hasRoom, Bool.and_eq_true, decide_eq_true_eq] at h
  exact h.1

theorem transferGroup_length (c : CtxId) (f : FinalRec) : (transferGroup s c f).length ≤ 3 := by
  simp only [transferGroup]
  split
  · exact Nat.zero_le _
  · exact Nat.le_refl _

/-- Records may be built: the engine is RUNNING, or it is the last event of the load. -/
def MayBuild (ld : Bool) (s : State) : Prop := ld = true ∨ s.engine.state = .running

theorem MayBuild.congr {t : State} (h : MayBuild ld s) (he : t.engine = s.engine) : MayBuild ld t :=
  h.imp id fun h => by rw [he, h]

theorem handTransferEnd_moves {c : CtxId} (f : FinalRec) (hb : MayBuild ld s)
    (hc : (getCtx s c).state.isFinal = true) : Moves ld s (handTransferEnd s c f) := by
  unfold handTransferEnd
  split
  next h =>
    have := hasRoom_length h
    have := transferGroup_length (s := s) c f
    exact (Move.builds _ (.inr (by omega)) hb).moves
  next => exact (Move.owes c hc).moves

theorem handApplied_moves (w : WinId) (hb : MayBuild ld s) : Moves ld s (handApplied s w) := by
  unfold handApplied
  split
  next h => exact (Move.builds _ (.inr (hasRoom_length h)) hb).moves
  next => exact (Move.win w _ {}).moves

theorem handFenced_moves (w : WinId) (hb : MayBuild ld s) : Moves ld s (handFenced s w) := by
  unfold handFenced
  split
  next h => exact (Move.builds _ (.inr (hasRoom_length h)) hb).moves
  next => exact (Move.win w _ {}).moves

theorem handSweeper_moves (r : Report) (hb : MayBuild ld s) : Moves ld s (handSweeper s r) := by
  unfold handSweeper
  split
  next h => exact (Move.builds _ (.inr (hasRoom_length h)) hb).moves
  next => exact SameCore.moves {}

theorem handOrderDone_moves (r : Report) (hb : MayBuild ld s) : Moves ld s (handOrderDone s r) := by
  unfold handOrderDone
  split
  next h => exact (Move.builds _ (.inr (hasRoom_length h)) hb).moves
  next => exact SameCore.moves {}

/-- A report less is owed. -/
theorem MinorCtx.owesLess (x : Context) : MinorCtx x { x with owed := x.owed - 1 } :=
  { owed := Nat.sub_le _ _, free := fun h => by rw [h]; rfl }

theorem grantItem_moves (i : OwedItem) (hl : s.report.list.length + i.size ≤ 32) (hb : MayBuild ld s) :
    Moves ld s (grantItem s i) := by
  cases i with
  | applied w => exact (Move.builds _ (.inr hl) hb).moves.trans (Move.win w (fun x => { x with owedApplied := false }) {}).moves
  | fenced w => exact (Move.builds _ (.inr hl) hb).moves.trans (Move.win w (fun x => { x with owedFenced := false }) {}).moves
  | transfer c =>
    refine .trans ?_ (Move.ctx c (fun cx => { cx with owed := cx.owed - 1 }) (.owesLess _)).moves
    split
    · have := transferGroup_length (s := s) c ‹_›
      simp only [OwedItem.size] at hl
      exact (Move.builds _ (.inr (by omega)) hb).moves
    · exact .refl
  | sweeper r => exact ((Move.builds _ (.inr hl) hb).moves).tail (.quiet {})
  | orderDone r => exact ((Move.builds _ (.inr hl) hb).moves).tail (.quiet {})

theorem grantRoom_moves (n : Nat) (hb : MayBuild ld s) : Moves ld s (grantRoom n s) := by
  induction n generalizing s with
  | zero => exact .refl
  | succ n ih =>
    unfold grantRoom
    split
    · exact .refl
    · split
      next hl => exact (grantItem_moves _ hl hb).trans (ih (hb.congr (by simp)))
      next => exact .refl

theorem mayLeave_running (h : mayLeave s = true) : s.engine.state = .running := by
  simp only [mayLeave, isRunning, Bool.and_eq_true, decide_eq_true_eq] at h
  exact h.1.1

theorem drain_moves : Moves ld s (drain s) := by
  unfold drain
  split
  · exact .refl
  next r rest hl =>
    split
    next hm =>
      exact ((Move.departs r rest hl hm).moves.tail (.quiet {})).trans
        (grantRoom_moves _ (.inr (by simpa using mayLeave_running hm)))
    next => exact .refl

theorem noteAble_core (b : Bool) : SameCore s (noteAble b s) := by
  unfold noteAble
  split <;> exact {}

theorem settle_moves (b : State) : Moves ld s (settle b s) :=
  (drain_moves.tail (.quiet (t := evalAttn (drain s)) { state := rfl, cpb := rfl, load := rfl })).tail
    (.quiet (noteAble_core _))

/-! ### The sweeper -/

theorem discardVisit_core : SameCore s (discardVisit s) := by
  unfold discardVisit
  split <;> exact {}

theorem stopSweepFor_moves (x : SweepCause) (hb : MayBuild ld s) : Moves ld s (stopSweepFor s x) := by
  unfold stopSweepFor
  split
  · exact .refl
  · exact ((discardVisit_core.moves).trans (handSweeper_moves _ (hb.congr (by simp)))).tail (.quiet {})

theorem stopSweepOf_moves (w : WinId) (hb : MayBuild ld s) : Moves ld s (stopSweepOf s w) := by
  unfold stopSweepOf
  split
  · exact .refl
  · split
    · exact stopSweepFor_moves _ hb
    · exact .refl

theorem endVisit_moves (hb : MayBuild ld s) : Moves ld s (endVisit s) := by
  unfold endVisit
  split
  · exact .refl
  · split
    · dsimp only
      split <;> exact (handSweeper_moves _ hb).tail (.quiet {})
    · exact SameCore.moves {}

theorem abandonVisit_moves (c : CtxId) (hb : MayBuild ld s) : Moves ld s (abandonVisit s c) := by
  unfold abandonVisit
  split
  · exact .refl
  · split
    · exact (discardVisit_core.moves.trans (SameCore.moves {})).trans (endVisit_moves (hb.congr (by simp)))
    · exact .refl

/-! ### Windows -/

theorem applyDef_moves (w : WinId) (t : TakenDef) (hs : s.engine.state ≠ .reset ∨ s.engine.load ≠ .idle)
    (hv : validate s w (some t) = none) (hb : MayBuild ld s) : Moves ld s (applyDef s w t) :=
  (Move.applied w t hs hv).moves.trans (stopSweepOf_moves w (hb.congr (by simp)))

theorem struckEntry_minor (x : Window) (f : CtxState) : MinorWin x (struckEntry x f) := by
  unfold struckEntry
  split
  · exact {}
  · split <;> exact {}

theorem reachesThreshold_active {x : Window} {f : CtxState} (h : reachesThreshold x f = true) : x.state = .active := by
  simp only [reachesThreshold, Bool.and_eq_true, decide_eq_true_eq] at h
  exact h.1.2

theorem notifyWindow_moves (w : WinId) (f : CtxState) (hb : MayBuild ld s) : Moves ld s (notifyWindow s w f) := by
  have hstruck : Moves ld s (modWin s w fun x => struckEntry x f) := (Move.win w _ (struckEntry_minor _ f)).moves
  simp only [notifyWindow]
  split
  next h =>
    have hactive := reachesThreshold_active h
    have hfence : Moves ld (modWin s w fun x => struckEntry x f) _ :=
      (Move.win w (fun x => { x with state := .fenced }) { off := by rw [hactive]; simp }).moves
    exact (hstruck.trans hfence).trans (handFenced_moves w (hb.congr (by simp)))
  next => exact hstruck

/-! ### Held reads -/

theorem releaseRead_moves (c : CtxId) (l : LaneId) : Moves ld s (releaseRead c s l) := by
  unfold releaseRead
  split
  next f h hf hh =>
    split
    · exact ((SameCore.moves (t := forward s h.req none) {}).trans
        (Move.readGone (s := forward s h.req none) l (Option.isSome_of_eq_some hf)
          (Option.isSome_of_eq_some hh)).moves).tail (.quiet {})
    · exact .refl
  next => exact .refl

theorem failRead_moves (c : CtxId) (l : LaneId) : Moves ld s (failRead c s l) := by
  unfold failRead
  split
  next f h hf hh =>
    split
    · exact ((SameCore.moves (t := answerError s h.req) {}).trans
        (Move.readGone (s := answerError s h.req) l (Option.isSome_of_eq_some hf)
          (Option.isSome_of_eq_some hh)).moves).tail (.quiet {})
    · exact .refl
  next => exact .refl

theorem fenceOutcome_moves (c : CtxId) (f : CtxState) : Moves ld s (fenceOutcome s c f) := by
  unfold fenceOutcome
  split
  · exact Moves.foldl (I := fun _ => True) (fun _ _ _ => trivial) (fun _ l _ => releaseRead_moves c l) _ trivial
  · exact Moves.foldl (I := fun _ => True) (fun _ _ _ => trivial) (fun _ l _ => failRead_moves c l) _ trivial

/-! ### The end of a transfer (R48, R50) -/

/-- R48, steps 5 to 9: a context's entry into its first final state after `finalise`. -/
def announceFinal (s : State) (c : CtxId) (f : FinalRec) : State :=
  let s3 := fenceOutcome s c f.state
  let s4 := match windowOf s3 c with
    | some w => notifyWindow s3 w f.state
    | none => s3
  let s5 := handTransferEnd s4 c f
  modCtx s5 c fun cx => verdictContext cx f.state ((defnOf s5 c).any (·.isolate))

theorem enterFinal_eq (s : State) (c : CtxId) (f : FinalRec) :
    enterFinal s c f = announceFinal (finalise s c f) c f := rfl

theorem verdictContext_minor {x : Context} (f : CtxState) (i : Bool) (h : x.state ≠ .free) :
    MinorCtx x (verdictContext x f i) := by
  unfold verdictContext
  split
  · exact { free := MinorCtx.of_state h }
  · split
    · exact { free := MinorCtx.of_state h }
    · exact { free := id }

theorem isFinal_ne_free {f : CtxState} (h : f.isFinal = true) : f ≠ .free := by
  rintro rfl
  cases h

theorem handTransferEnd_state (s : State) (c k : CtxId) (f : FinalRec) :
    (getCtx (handTransferEnd s c f) k).state = (getCtx s k).state := by
  unfold handTransferEnd
  split
  · simp [getCtx]
  · by_cases h : c = k
    · subst h; simp
    · rw [getCtx_modCtx_of_ne _ _ _ _ h]

theorem announceFinal_moves {c : CtxId} {f : FinalRec} (hc : (getCtx s c).state.isFinal = true) (hb : MayBuild ld s) :
    Moves ld s (announceFinal s c f) := by
  have hwin : Moves ld s (match windowOf (fenceOutcome s c f.state) c with
      | some w => notifyWindow (fenceOutcome s c f.state) w f.state
      | none => fenceOutcome s c f.state) := by
    refine (fenceOutcome_moves c f.state).trans ?_
    split
    · exact notifyWindow_moves _ _ (hb.congr (by simp))
    · exact .refl
  have hsame : ∀ x : State, x = (match windowOf (fenceOutcome s c f.state) c with
      | some w => notifyWindow (fenceOutcome s c f.state) w f.state
      | none => fenceOutcome s c f.state) → x.engine = s.engine ∧ x.ctxs = s.ctxs := by
    rintro x rfl
    split <;> simp
  obtain ⟨heng, hctxs⟩ := hsame _ rfl
  have hfin : (getCtx (match windowOf (fenceOutcome s c f.state) c with
      | some w => notifyWindow (fenceOutcome s c f.state) w f.state
      | none => fenceOutcome s c f.state) c).state.isFinal = true := by
    rw [getCtx_congr hctxs]; exact hc
  refine (hwin.trans (handTransferEnd_moves f (hb.congr heng) hfin)).trans
    (Move.ctx c (fun cx => verdictContext cx f.state _) (verdictContext_minor _ _ ?_)).moves
  rw [handTransferEnd_state]
  exact isFinal_ne_free hfin

theorem getCtx_finalise_self (s : State) (c : CtxId) (f : FinalRec) :
    getCtx (finalise s c f) c = { finalContext (getCtx s c) f with extents := [] } := by
  simp [finalise, returnList, detachSlots, getCtx, modCtx]

theorem getCtx_finalise_of_ne (s : State) (f : FinalRec) {c k : CtxId} (h : c ≠ k) :
    getCtx (finalise s c f) k = getCtx s k := by
  have hv : (c : Nat) ≠ k := fun e => h (Fin.ext e)
  simp [finalise, returnList, detachSlots, getCtx, modCtx, hv]

theorem enterFinal_moves {c : CtxId} {f : FinalRec} (hc : (getCtx s c).state = .collecting)
    (hf : f.state.isFinal = true) (hb : MayBuild ld s) : Moves ld s (enterFinal s c f) :=
  (Move.finished c f s.builder hf (.inl ⟨hc, rfl⟩)).moves.trans
    (announceFinal_moves (s := finalise s c f) (by rw [getCtx_finalise_self]; exact hf) (hb.congr (by simp)))

theorem loseTransfer_moves (c : CtxId) (x : Cause) (hb : MayBuild ld s) : Moves ld s (loseTransfer s c x) := by
  unfold loseTransfer
  split
  next h => exact enterFinal_moves h rfl hb
  next => exact .refl

theorem verdictOccasion_moves (c : CtxId) (hb : MayBuild ld s) : Moves ld s (verdictOccasion s c) := by
  simp only [verdictOccasion]
  split
  next h =>
    simp only [verdictDue, Bool.and_eq_true, decide_eq_true_eq] at h
    split <;> exact enterFinal_moves h.2 rfl hb
  next => exact .refl

theorem enterSecond_moves {c : CtxId} {f : FinalRec} (hc : (getCtx s c).state = .verified)
    (hf : f.state = .tainted ∨ f.state = .corrupted) (hb : MayBuild ld s) : Moves ld s (enterSecond s c f) := by
  have hfin : f.state.isFinal = true := by rcases hf with h | h <;> rw [h] <;> rfl
  simp only [enterSecond]
  split
  next w hw =>
    refine ((Move.second c f hc hf).moves.trans (notifyWindow_moves _ _ (hb.congr (by simp)))).trans
      (handTransferEnd_moves f (hb.congr (by simp)) ?_)
    rw [getCtx_congr (notifyWindow_frame _ _ _).2.2.2.2.2.1]
    simpa using hfin
  next => exact (Move.second c f hc hf).moves.trans (handTransferEnd_moves f (hb.congr (by simp)) (by simpa using hfin))

theorem taint_moves {c : CtxId} (x : Cause) (hc : (getCtx s c).state = .verified) (hb : MayBuild ld s) :
    Moves ld s (taint s c x) :=
  (enterSecond_moves hc (.inl rfl) hb).trans (abandonVisit_moves c (hb.congr (by simp)))

/-! ### A context returns to FREE (R55) -/

theorem getCtx_windowOf {c : CtxId} {w : WinId} (h : windowOf s c = some w) :
    ∃ b, (getCtx s c).binding = some b ∧ b.win = w := by
  simpa [windowOf] using h

/-- R33: a window that a context leaves takes its staged definition at once; what follows stops a sweep and reports. -/
theorem freeBound_eq (s : State) (c : CtxId) (w : WinId) :
    freeBound s c w = modWin (modWin (setCtx s c Context.free) w fun x => { x with bound := x.bound - 1 }) w takeStaged := by
  simp only [freeBound, modWin, setWin, getWin, setCtx, Vector.set_set, Vector.getElem_set_self]

theorem modWin_of_eq {w : WinId} {f g : Window → Window} (h : f (getWin s w) = g (getWin s w)) :
    modWin s w f = modWin s w g := by
  rw [modWin, modWin, h]

theorem modWin_id {w : WinId} {f : Window → Window} (h : f (getWin s w) = getWin s w) : modWin s w f = s := by
  rw [modWin, h]
  simp [setWin, getWin]

theorem drainApply_moves_takeStaged (w : WinId) (hb : MayBuild ld s) :
    Moves ld (modWin s w takeStaged) (drainApply s w) := by
  unfold drainApply
  split
  next hzero =>
    split
    next t ht =>
      rw [modWin_of_eq (f := takeStaged) (g := fun x => appliedEntry x t) (by simp [takeStaged, hzero, ht])]
      exact (stopSweepOf_moves _ (hb.congr (by simp))).trans (handApplied_moves _ (hb.congr (by simp)))
    next ht => rw [modWin_id (by simp [takeStaged, hzero, ht])]
  next hzero => rw [modWin_id (by simp [takeStaged, hzero])]

theorem returnToFree_moves {c : CtxId} (hp : (getCtx s c).state ≠ .priming) (hc : (getCtx s c).state ≠ .collecting)
    (hb : MayBuild ld s) : Moves ld s (returnToFree s c) := by
  unfold returnToFree
  split
  next h => exact (Move.unbound c (by simpa [windowOf] using h) hp hc).moves
  next w h =>
    obtain ⟨b, hbind, rfl⟩ := getCtx_windowOf h
    refine (Move.freed c b hbind hp hc).moves.trans ?_
    rw [freeBound_eq]
    exact drainApply_moves_takeStaged _ (hb.congr (by simp))

end Sys2Proof.Machine
end

section
/-! The accumulator stays a residue, whatever ladder a context holds (R1, R2); and the treatment of a head as a chain of
moves. -/

set_option Elab.async false

namespace Sys2Proof.Machine

open Relation

/-! ### Accumulators (R2, R12, R14) -/

theorem foldDown_lt (fuel : Nat) {x : Nat} (h : x < 2 ^ (62 + fuel)) : foldDown fuel x < 4611686018427387904 := by
  induction fuel generalizing x with
  | zero => exact h
  | succ fuel ih =>
    rw [foldDown]
    split
    next hle =>
      refine ih ?_
      have hpow : 2 ^ (62 + (fuel + 1)) = 2 ^ fuel * 9223372036854775808 := by rw [pow_add]; ring
      have hpow' : 2 ^ (62 + fuel) = 2 ^ fuel * 4611686018427387904 := by rw [pow_add]; ring
      have hpos : 1 ≤ 2 ^ fuel := Nat.one_le_two_pow
      rw [hpow] at h
      rw [hpow', fold61]
      omega
    next hlt => omega

/-- A reduction of any value is at most p + 1, which a later sum reduces below p. -/
theorem reduce_le (x : Nat) : reduce x ≤ P + 1 := by
  have hfold : fold61 x ≤ x := by
    have := fold61_add_mul x
    omega
  have hx : x < 2 ^ (x.log2 + 1) := Nat.lt_log2_self
  have hbound : fold61 x < 2 ^ (62 + (x.log2 + 1)) :=
    hfold.trans_lt (hx.trans_le (Nat.pow_le_pow_right (by decide) (by omega)))
  have hlt := foldDown_lt (x.log2 + 1) hbound
  simp only [reduce]
  unfold P
  split <;> omega

theorem reduce_lt {x : Nat} (h : x ≤ P * (P - 1)) : reduce x < P := by
  rw [reduce_eq_mod h]
  exact mod_P_lt x

theorem two_P_le : 2 * P ≤ P * (P - 1) := by decide

theorem addMod_lt {x y : Nat} (hx : x < P) (hy : y ≤ P + 1) : addMod x y < P :=
  reduce_lt (le_trans (by omega) two_P_le)

theorem contribution_le (ladder : List Nat) (a : Nat) (data : List Byte) : contribution ladder a data ≤ P + 1 :=
  reduce_le _

theorem addPieces_lt (ladder : List Nat) (off : Nat) (data : List Byte) (ps : List Extent) {acc : Nat} (h : acc < P) :
    addPieces ladder off data ps acc < P := by
  induction ps generalizing acc with
  | nil => exact h
  | cons p ps ih => exact ih (addMod_lt h (contribution_le _ _ _))

theorem correct_lt {acc old new : Nat} (h : acc < P) (hn : new ≤ P + 1) : correct acc old new < P := by
  have hsub : acc + P - old ≤ 2 * P := by omega
  exact addMod_lt (reduce_lt (hsub.trans two_P_le)) hn

/-- Stated without the accumulator, so that the kernel need not compute with p to compare two of them. -/
theorem correctPieces_cons (ladder : List Nat) (oldOff newOff : Nat) (old new : List Byte) (p : Extent) (ps : List Extent) :
    correctPieces ladder oldOff old newOff new (p :: ps) = fun acc =>
      correctPieces ladder oldOff old newOff new ps
        (correct acc (contribution ladder p.start (pieceBytes oldOff old p))
          (contribution ladder p.start (pieceBytes newOff new p))) := rfl

theorem correctPieces_lt (ladder : List Nat) (oldOff newOff : Nat) (old new : List Byte) (ps : List Extent) {acc : Nat}
    (h : acc < P) : correctPieces ladder oldOff old newOff new ps acc < P := by
  induction ps generalizing acc with
  | nil => exact h
  | cons p ps ih =>
    rw [correctPieces_cons]
    exact ih (correct_lt h (contribution_le _ _ _))

variable {ld : Bool} {s : State}

theorem awaits.congr {t : State} {l : LaneId} {r : Request} (h : awaits s l r) (hl : t.lanes = s.lanes) :
    awaits t l r := by
  unfold awaits at *
  rwa [getLane_congr hl]

theorem HeadFree.congr {t : State} {l : LaneId} (h : HeadFree s l) (he : t.engine = s.engine) (hl : t.lanes = s.lanes) :
    HeadFree t l := by
  unfold HeadFree at *
  rwa [getLane_congr hl, he]

theorem MinorCtx.of_collecting {x y : Context} (h : x.state = .collecting) : x = Context.free → y = Context.free :=
  MinorCtx.of_state (by rw [h]; simp)

/-! ### Trailers (R83 to R87, R94) -/

theorem takeTrailer_moves {c : CtxId} (t : Touch) (data : List Byte) (hc : (getCtx s c).state = .collecting)
    (hb : MayBuild ld s) : Moves ld s (takeTrailer s c t data) := by
  have hmerge : Moves ld s (modCtx s c fun cx => { cx with shadow := mergeTrailer cx.shadow t data }) :=
    (Move.ctx c _ { free := MinorCtx.of_collecting hc }).moves
  have hb' : MayBuild ld (modCtx s c fun cx => { cx with shadow := mergeTrailer cx.shadow t data }) := hb
  have hc' : (getCtx (modCtx s c fun cx => { cx with shadow := mergeTrailer cx.shadow t data }) c).state = .collecting := by
    simpa using hc
  simp only [takeTrailer]
  split
  · split
    · exact hmerge
    · exact hmerge.trans (enterFinal_moves hc' rfl hb')
  · split
    · split
      · exact hmerge.trans (enterFinal_moves hc' rfl hb')
      · exact (hmerge.trans (Move.ctx c (fun x => takenContext x _) { free := MinorCtx.of_collecting hc' }).moves).trans
          (verdictOccasion_moves c hb')
    · exact hmerge

theorem rewriteTrailer_moves {c : CtxId} (t : Touch) (data : List Byte) (hc : (getCtx s c).state = .verified)
    (hb : MayBuild ld s) : Moves ld s (rewriteTrailer s c t data) := by
  have hmerge : Moves ld s (modCtx s c fun cx => { cx with shadow := mergeTrailer cx.shadow t data }) :=
    (Move.ctx c _ { free := MinorCtx.of_state (by rw [hc]; simp) }).moves
  simp only [rewriteTrailer]
  split
  · exact hmerge
  · exact hmerge.trans (taint_moves _ (by simpa using hc) hb)

/-! ### A taken write (R73, R74, R98 to R102) -/

section Taken

variable {l : LaneId} {r : Request} {c : CtxId}

theorem refuseWrite_moves (t : Touch) (hh : HeadFree s l) (hc : (getCtx s c).state = .collecting) :
    Moves ld s (refuseWrite s l r t c) :=
  ((Move.ctx c (fun cx => { cx with rejWrites := raise cx.rejWrites 1 }) { free := MinorCtx.of_collecting hc }).moves.trans
    (modWin_counters_moves _ _)).trans (partAnswer_moves r hh)

theorem beginReconcile_moves (t : Touch) (ps : List Extent) (hrun : s.engine.state = .running) (ha : awaits s l r)
    (hc : (getCtx s c).state = .collecting) : Moves ld s (beginReconcile s l r t c ps) :=
  ((Move.attached l r c _ hrun ha hc rfl).moves).tail (.quiet {})

theorem applyPolicy_moves (t : Touch) (ps : List Extent) (hrun : s.engine.state = .running) (ha : awaits s l r)
    (hc : (getCtx s c).state = .collecting) : Moves ld s (applyPolicy s l r t c ps) := by
  unfold applyPolicy
  split
  · exact forwardHead_moves _ _ ha.headFree
  · split
    · exact beginReconcile_moves t ps hrun ha hc
    · exact (forwardHead_moves _ _ ha.headFree).tail (.quiet {})
    · exact refuseWrite_moves t ha.headFree hc

theorem applyPolicy_engine (t : Touch) (ps : List Extent) : (applyPolicy s l r t c ps).engine = s.engine := by
  unfold applyPolicy
  split
  · simp
  · split <;> simp [beginReconcile, refuseWrite, modWinCounters]

theorem takeTrailerPiece_moves (t : Touch) (data : List Byte) (hb : MayBuild ld s) :
    Moves ld s (takeTrailerPiece s c t data) := by
  unfold takeTrailerPiece
  split
  next h =>
    simp only [Bool.and_eq_true, decide_eq_true_eq] at h
    exact takeTrailer_moves t data h.2 hb
  next => exact .refl

theorem takeTrailerPiece_engine (t : Touch) (data : List Byte) : (takeTrailerPiece s c t data).engine = s.engine := by
  unfold takeTrailerPiece
  split <;> simp

theorem accountWrite_moves (off : Nat) (data : List Byte) (v : Division) (hc : (getCtx s c).state = .collecting) :
    Moves ld s (modCtx s c fun x => accountWrite x off data v) :=
  (Move.ctx c _ { acc := addPieces_lt _ _ _ _, free := MinorCtx.of_collecting hc }).moves

theorem overlapPieces_of_empty {e f : Nat} (h : ¬ e < f) (list : List Extent) : overlapPieces e f list = [] := by
  induction list with
  | nil => rfl
  | cons x rest ih =>
    rw [overlapPieces_cons, ih, prependRange, if_neg]
    omega

/-- A range with a new piece is not empty. -/
theorem lt_of_fresh_ne_nil {list : List Extent} {len : Option Nat} {a n : Nat} (h : (divide list len a n).fresh ≠ []) :
    a < (divide list len a n).stop := by
  by_contra hle
  refine h ?_
  show newPieces a (divide list len a n).stop (overlapPieces a (divide list len a n).stop list) = []
  rw [overlapPieces_of_empty hle, newPieces_nil, prependRange, if_neg hle]

theorem insertionFailure_eq_none {d : WinDef} {e f : Nat} (h : insertionFailure s c d e f = none) :
    meetCount e f (getCtx s c).extents = 0 → s.pool.level ≠ 0 := by
  intro hm hl
  simp only [insertionFailure, hm, hl, if_true] at h
  split at h <;> cases h

theorem takePayload_moves (t : Touch) (hrun : s.engine.state = .running) (ha : awaits s l r)
    (hc : (getCtx s c).state = .collecting) : Moves ld s (takePayload s l r t c) := by
  simp only [takePayload]
  split
  · exact refuseWrite_moves t ha.headFree hc
  · split
    · refine ((accountWrite_moves _ _ _ hc).trans (applyPolicy_moves t _ hrun (ha.congr rfl) ?_)).trans
        (takeTrailerPiece_moves _ _ (.inr ?_))
      · simpa [accountWrite] using hc
      · rw [applyPolicy_engine]; exact hrun
    next hfresh =>
      split
      · refine (forwardHead_moves _ _ ha.headFree).trans (enterFinal_moves ?_ rfl (.inr ?_))
        · simpa [getCtx] using hc
        · simpa using hrun
      next hins =>
        have hmeet := insertionFailure_eq_none hins
        have hinsert : Moves ld s (insertPieces s c t.lo _) :=
          (Move.inserted c t.lo _ hc (lt_of_fresh_ne_nil hfresh) hmeet).moves
        have hcol : (getCtx (insertPieces s c t.lo
            (divide (getCtx s c).extents (getCtx s c).len t.lo (min t.hi t.d.capacity - t.lo)).stop) c).state =
            .collecting := by
          simp only [insertPieces, getCtx_modCtx_self]
          simpa [getCtx, setPool] using hc
        refine (((hinsert.trans (accountWrite_moves _ _ _ hcol)).trans
          (applyPolicy_moves t _ hrun (ha.congr rfl) ?_)).trans (takeTrailerPiece_moves _ _ (.inr ?_))).trans
          (verdictOccasion_moves c (.inr ?_))
        · simpa [accountWrite] using hcol
        · rw [applyPolicy_engine]; exact hrun
        · rw [takeTrailerPiece_engine, applyPolicy_engine]; exact hrun

theorem takeWrite_moves (t : Touch) (hrun : s.engine.state = .running) (ha : awaits s l r)
    (hc : (getCtx s c).state = .collecting) : Moves ld s (takeWrite s l r t c) := by
  have hreload : Moves ld s (reloadIdle s c t.d) := (Move.ctx c _ { free := MinorCtx.of_collecting hc }).moves
  have hcol : (getCtx (reloadIdle s c t.d) c).state = .collecting := by simpa [reloadIdle] using hc
  simp only [takeWrite]
  split
  · exact hreload.trans (takePayload_moves t hrun (ha.congr rfl) hcol)
  · refine (hreload.trans (forwardHead_moves _ _ (ha.congr (s := s) rfl).headFree)).trans
      (takeTrailer_moves t _ ?_ (.inr ?_))
    · rw [getCtx_congr (forwardHead_frame _ _ _ _).2.2.2.2.1]; exact hcol
    · simpa [reloadIdle] using hrun

/-! ### Writes and reads of one bay (R46, R57 to R59) -/

theorem writeUnbound_moves (t : Touch) (hrun : s.engine.state = .running) (ha : awaits s l r)
    (hl : lookup s t.win t.bay = none) : Moves ld s (writeUnbound s l r t) := by
  simp only [writeUnbound]
  split
  · split
    next c hfree =>
      exact (Move.bound c _ _ _ none none (free_of_lowestFree hfree) hl).moves.trans
        (holdPriming_moves (by simpa using hrun) (ha.congr (by simp)))
    next => exact (forwardHead_moves _ _ ha.headFree).trans (modWin_counters_moves _ _)
  · exact (forwardHead_moves _ _ ha.headFree).trans (modWin_counters_moves _ _)

theorem getCtx_forwardHead (x : Option (CtxId × Word32)) (k : CtxId) : getCtx (forwardHead s l r x) k = getCtx s k :=
  getCtx_congr (forwardHead_frame _ _ _ _).2.2.2.2.1 k

theorem afterEnd_minor {x : Context} (h : x.state ≠ .free) :
    MinorCtx x { x with afterEnd := raise x.afterEnd 1 } := { free := MinorCtx.of_state h }

theorem countAfterEnd_moves (t : Touch) (hh : HeadFree s l) (hc : (getCtx s c).state ≠ .free) :
    Moves ld s (writeBound.countAfterEnd s l r t c) := by
  unfold writeBound.countAfterEnd
  split
  · refine (forwardHead_moves _ _ hh).trans
      (Move.ctx c (fun cx => { cx with afterEnd := raise cx.afterEnd 1 }) (afterEnd_minor ?_)).moves
    rwa [getCtx_forwardHead]
  · exact forwardHead_moves _ _ hh

theorem writeBound_moves (t : Touch) (hrun : s.engine.state = .running) (ha : awaits s l r) :
    Moves ld s (writeBound s l r t c) := by
  have hrun' : MayBuild ld (forwardHead s l r none) := .inr (by simpa using hrun)
  unfold writeBound
  split
  case h_1 => exact forwardHead_moves _ _ ha.headFree
  case h_2 => exact holdPriming_moves hrun ha
  case h_3 hc => exact takeWrite_moves t hrun ha hc
  case h_4 hc =>
    have hc' : (getCtx (forwardHead s l r none) c).state = .verified := by rwa [getCtx_forwardHead]
    split
    · exact (forwardHead_moves _ _ ha.headFree).trans (taint_moves _ hc' hrun')
    · exact (forwardHead_moves _ _ ha.headFree).trans (rewriteTrailer_moves t _ hc' hrun')
  case h_5 => exact (forwardHead_moves _ _ ha.headFree).trans (modWin_counters_moves _ _)
  all_goals exact countAfterEnd_moves t ha.headFree (by simp [*])

theorem writeBay_moves (t : Touch) (hrun : s.engine.state = .running) (ha : awaits s l r) :
    Moves ld s (writeBay s l r t) := by
  unfold writeBay
  split
  · exact partAnswer_moves r ha.headFree
  · split
    · exact forwardHead_moves _ _ ha.headFree
    · split
      next hl => exact writeUnbound_moves t hrun ha hl
      next => exact writeBound_moves t hrun ha

theorem refuseRead_moves (hh : HeadFree s l) : Moves ld s (refuseRead s l r) :=
  (partAnswer_moves r hh).tail (.quiet {})

theorem fencedRead_moves (t : Touch) (hrun : s.engine.state = .running) (ha : awaits s l r) :
    Moves ld s (fencedRead s l r t) := by
  unfold fencedRead
  split
  · exact refuseRead_moves ha.headFree
  · split
    case h_1 => exact holdRead_moves t _ hrun ha
    case h_2 => exact holdRead_moves t _ hrun ha
    case h_3 => exact forwardHead_moves _ _ ha.headFree
    all_goals exact refuseRead_moves ha.headFree

theorem readBay_moves (t : Touch) (hrun : s.engine.state = .running) (ha : awaits s l r) :
    Moves ld s (readBay s l r t) := by
  unfold readBay
  split
  · exact partAnswer_moves r ha.headFree
  · split
    · exact fencedRead_moves t hrun ha
    · exact forwardHead_moves _ _ ha.headFree

/-! ### Straddling requests (R26, R27) -/

theorem countWindows_moves (ts : List Touch) (f : WinCounters → WinCounters) : Moves ld s (countWindows s ts f) := by
  refine Moves.foldl (I := fun _ => True) (fun _ _ _ => trivial) (fun x w _ => ?_) _ trivial
  split
  · exact modWin_counters_moves w f
  · exact .refl

@[simp] theorem countWindows_frame (s : State) (ts : List Touch) (f : WinCounters → WinCounters) :
    (countWindows s ts f).engine = s.engine ∧ (countWindows s ts f).lanes = s.lanes ∧
    (countWindows s ts f).stall = s.stall ∧ (countWindows s ts f).upOut = s.upOut ∧
    (countWindows s ts f).port = s.port ∧ (countWindows s ts f).ctxs = s.ctxs ∧
    (countWindows s ts f).serial = s.serial ∧ (countWindows s ts f).pool = s.pool ∧
    (countWindows s ts f).builder = s.builder ∧ (countWindows s ts f).slots = s.slots ∧
    (countWindows s ts f).fence = s.fence ∧ (countWindows s ts f).time = s.time ∧
    (countWindows s ts f).report = s.report ∧ (countWindows s ts f).orders = s.orders ∧
    (countWindows s ts f).sweeper = s.sweeper ∧ (countWindows s ts f).counters = s.counters ∧
    (countWindows s ts f).choices = s.choices ∧ (countWindows s ts f).pending = s.pending := by
  have hstep : ∀ {β : Type} (g : State → β), (∀ x w k, g (modWinCounters x w k) = g x) →
      g (countWindows s ts f) = g s := fun g h => foldl_unchanged g _ (fun x w => by split <;> simp [h]) _ _
  exact ⟨hstep _ fun _ _ _ => rfl, hstep _ fun _ _ _ => rfl, hstep _ fun _ _ _ => rfl, hstep _ fun _ _ _ => rfl,
    hstep _ fun _ _ _ => rfl, hstep _ fun _ _ _ => rfl, hstep _ fun _ _ _ => rfl, hstep _ fun _ _ _ => rfl,
    hstep _ fun _ _ _ => rfl, hstep _ fun _ _ _ => rfl, hstep _ fun _ _ _ => rfl, hstep _ fun _ _ _ => rfl,
    hstep _ fun _ _ _ => rfl, hstep _ fun _ _ _ => rfl, hstep _ fun _ _ _ => rfl, hstep _ fun _ _ _ => rfl,
    hstep _ fun _ _ _ => rfl, hstep _ fun _ _ _ => rfl⟩

theorem straddleTouch_moves (t : Touch) (hb : MayBuild ld s) : Moves ld s (straddleTouch s t) := by
  unfold straddleTouch
  split
  · exact .refl
  · split
    case h_1 => exact .refl
    case h_2 => exact .refl
    case h_3 hc => exact enterFinal_moves hc rfl hb
    case h_4 hc => exact taint_moves _ hc hb
    case h_5 => exact modWin_counters_moves _ _
    all_goals exact (Move.ctx _ _ (afterEnd_minor (by simp [*]))).moves

theorem straddleTouch_engine (t : Touch) : (straddleTouch s t).engine = s.engine := by
  unfold straddleTouch
  repeat' split
  all_goals simp [straddleTouch.countAfterEnd, modWinCounters]

theorem copyToShadow_report (s : State) (q : Request) :
    (copyToShadow s q).report.list = s.report.list ∧ (copyToShadow s q).report.producer = s.report.producer ∧
    (copyToShadow s q).report.consumer = s.report.consumer ∧ (copyToShadow s q).report.inFlight = s.report.inFlight := by
  simp only [copyToShadow]
  split <;> simp

theorem copyToShadow_moves (q : Request) : Moves ld s (copyToShadow s q) := by
  have hcopied : Moves ld s (modOrders s fun o => { o with shadow := (copyToShadow s q).orders.shadow }) := by
    rw [copyToShadow_shadow]
    exact (Move.copied _ (copyBytes_wf _ _) (copyBytes_owned _ _)).moves
  obtain ⟨hlist, hprod, hcons, hfl⟩ := copyToShadow_report s q
  refine hcopied.tail (.quiet ?_)
  constructor <;> simp [*]

theorem straddleOrder_core (ts : List Touch) : SameCore s (straddleOrder s ts).1 := by
  unfold straddleOrder
  split <;> exact {}

theorem straddleOrder_running (ts : List Touch) (hrun : s.engine.state = .running) :
    (straddleOrder s ts).1.engine.state = .running := by
  rw [(straddleOrder_core ts).state, hrun]

theorem straddleWrite_moves (ts : List Touch) (hrun : s.engine.state = .running) (ha : awaits s l r) :
    Moves ld s (straddleWrite s l r ts) := by
  simp only [straddleWrite]
  split
  · exact (partAnswer_moves r ha.headFree).trans (countWindows_moves _ _)
  · split
    · exact holdPriming_moves hrun ha
    · refine ((((forwardHead_moves _ _ ha.headFree).trans (copyToShadow_moves r)).trans
        (countWindows_moves ts _)).trans (straddleOrder_core _).moves).trans
        (Moves.foldl (I := MayBuild ld) (fun x t h => h.congr (straddleTouch_engine t))
          (fun x t h => straddleTouch_moves t h) _ (.inr (straddleOrder_running _ ?_)))
      simpa [countStraddleWrite] using hrun

theorem straddleRead_moves (ts : List Touch) (ha : awaits s l r) : Moves ld s (straddleRead s l r ts) := by
  unfold straddleRead
  split
  · exact (partAnswer_moves r ha.headFree).trans (countWindows_moves _ _)
  · exact (forwardHead_moves _ _ ha.headFree).trans (countWindows_moves _ _)

/-! ### The head event (R118) -/

theorem treatClass_moves (hrun : s.engine.state = .running) (ha : awaits s l r) : Moves ld s (treatClass s l r) := by
  unfold treatClass
  split
  case h_2 => exact (forwardHead_moves _ _ ha.headFree).trans (copyToShadow_moves r)
  case h_4 ts _ _ => exact straddleWrite_moves ts hrun ha
  case h_5 ts _ _ => exact straddleRead_moves ts ha
  case h_6 => exact writeBay_moves _ hrun ha
  case h_7 => exact writeBay_moves _ hrun ha
  case h_8 => exact writeBay_moves _ hrun ha
  case h_9 => exact readBay_moves _ hrun ha
  case h_10 => exact readBay_moves _ hrun ha
  case h_11 => exact readBay_moves _ hrun ha
  all_goals exact forwardHead_moves _ _ ha.headFree

theorem treatHead_moves (hrun : s.engine.state = .running) (ha : awaits s l r) : Moves ld s (treatHead s l r) := by
  unfold treatHead
  split
  · exact (Move.held l r .conflict hrun ha (.inr rfl)).moves.tail (.quiet {})
  · exact treatClass_moves hrun ha

end Taken

end Sys2Proof.Machine
end

section
/-! Orders, arrivals, answers and the start-up load as chains of moves, and so every step. -/

set_option Elab.async false

namespace Sys2Proof.Machine

open Relation

variable {ld : Bool} {s t : State}

/-! ### What the hand-overs leave of the Report Unit -/

/-- The Report Unit but for the pending list and the sequence number. -/
def reportRest (s : State) : ReportUnit := { s.report with list := [], seq := 0 }

theorem reportRest_congr (h : t.report = s.report) : reportRest t = reportRest s := by
  rw [reportRest, reportRest, h]

@[simp] theorem reportRest_build (s : State) (rs : List Report) : reportRest (build s rs) = reportRest s := by
  rw [reportRest, build, modReport_report, appendRecords_rest]
  rfl

@[simp] theorem reportRest_handTransferEnd (s : State) (c : CtxId) (f : FinalRec) :
    reportRest (handTransferEnd s c f) = reportRest s := by
  unfold handTransferEnd
  split
  · exact reportRest_build _ _
  · rfl

@[simp] theorem reportRest_handApplied (s : State) (w : WinId) : reportRest (handApplied s w) = reportRest s := by
  unfold handApplied
  split
  · exact reportRest_build _ _
  · rfl

@[simp] theorem reportRest_handFenced (s : State) (w : WinId) : reportRest (handFenced s w) = reportRest s := by
  unfold handFenced
  split
  · exact reportRest_build _ _
  · rfl

@[simp] theorem reportRest_handSweeper (s : State) (r : Report) : reportRest (handSweeper s r) = reportRest s := by
  unfold handSweeper
  split
  · exact reportRest_build _ _
  · rfl

@[simp] theorem reportRest_handOrderDone (s : State) (r : Report) : reportRest (handOrderDone s r) = reportRest s := by
  unfold handOrderDone
  split
  · exact reportRest_build _ _
  · rfl

@[simp] theorem reportRest_stopSweepFor (s : State) (x : SweepCause) : reportRest (stopSweepFor s x) = reportRest s := by
  unfold stopSweepFor
  split
  · rfl
  · exact (reportRest_handSweeper _ _).trans (reportRest_congr (by simp))

@[simp] theorem reportRest_stopSweepOf (s : State) (w : WinId) : reportRest (stopSweepOf s w) = reportRest s := by
  unfold stopSweepOf
  repeat' split
  all_goals simp

@[simp] theorem reportRest_drainApply (s : State) (w : WinId) : reportRest (drainApply s w) = reportRest s := by
  unfold drainApply
  repeat' split
  all_goals simp [applyDef, reportRest_congr (modWin_report s w _)]

/-! ### Folds whose steps each change their own entry -/

/-- An entry that only its own step of a fold changes is what that step makes of it. -/
theorem foldl_own {ι α : Type} (get : State → ι → α) {op : State → ι → State}
    (h : ∀ s i k, i ≠ k → get (op s i) k = get s k) {xs : List ι} (hxs : xs.Nodup) {k : ι} (hk : k ∈ xs) (s : State) :
    ∃ x, get x k = get s k ∧ get (xs.foldl op s) k = get (op x k) k := by
  have hother : ∀ (ys : List ι) (s : State), k ∉ ys → get (ys.foldl op s) k = get s k := by
    intro ys
    induction ys with
    | nil => exact fun _ _ => rfl
    | cons y ys ih =>
      intro s hy
      rw [List.mem_cons, not_or] at hy
      rw [List.foldl_cons, ih _ hy.2, h _ _ _ (Ne.symm hy.1)]
  induction xs generalizing s with
  | nil => cases hk
  | cons x xs ih =>
    obtain ⟨hx, hxs⟩ := List.nodup_cons.mp hxs
    rw [List.foldl_cons]
    rcases List.mem_cons.mp hk with rfl | hk
    · exact ⟨s, rfl, hother xs _ hx⟩
    · obtain ⟨y, hy, hop⟩ := ih hxs hk (op s x)
      exact ⟨y, hy.trans (h _ _ _ (fun e => hx (e ▸ hk))), hop⟩

theorem nodup_allLanes : allLanes.Nodup := List.nodup_finRange 16
theorem nodup_allWins : allWins.Nodup := List.nodup_finRange 16
theorem mem_allLanes (l : LaneId) : l ∈ allLanes := List.mem_finRange l
theorem mem_allWins (w : WinId) : w ∈ allWins := List.mem_finRange w

/-! ### CLEAR-ALL (R56, R128) -/

/-- What a lane shows of its hold: the lane and its held read. -/
def laneAndFence (s : State) (l : LaneId) : Lane × Option FenceRec := (getLane s l, getFence s l)

/-- R128: a lane after CLEAR-ALL. -/
def clearedLane (x : Lane × Option FenceRec) : Lane × Option FenceRec :=
  match x.1.head with
  | some { req := _, standing := .held .priming } => ({ x.1 with head := none }, x.2)
  | some { req := _, standing := .held .reconcile } => ({ x.1 with head := none }, x.2)
  | some { req := r, standing := .held .conflict } => ({ x.1 with head := some { req := r, standing := .released } }, x.2)
  | some { req := _, standing := .held .fence } => ({ x.1 with head := none }, none)
  | some { req := _, standing := .fresh } => x
  | some { req := _, standing := .released } => x
  | none => x

theorem getLane_clearHead (s : State) (l k : LaneId) :
    getLane (clearHead s l) k = if l = k then { getLane s l with head := none } else getLane s k :=
  getLane_setLane s l k _

theorem laneAndFence_clearLane_self (s : State) (l : LaneId) :
    laneAndFence (clearLane s l) l = clearedLane (laneAndFence s l) := by
  have hgone : ∀ r x, laneAndFence (forwardHead s l r x) l = ({ getLane s l with head := none }, getFence s l) :=
    fun r x => Prod.ext ((getLane_clearHead _ l l).trans (if_pos rfl)) (getFence_congr (by simp) l)
  unfold clearLane clearedLane
  split
  case h_4 r h =>
    have hlane : getLane (partAnswer s l r) l = { getLane s l with head := none } :=
      (getLane_clearHead _ l l).trans (if_pos rfl)
    simp only [laneAndFence, h]
    exact Prod.ext hlane (getFence_setFence_self _ _ _)
  all_goals simp_all [laneAndFence]

theorem laneAndFence_clearLane_of_ne (s : State) (l k : LaneId) (h : l ≠ k) :
    laneAndFence (clearLane s l) k = laneAndFence s k := by
  have hgone : ∀ x : State, x.lanes = s.lanes → getLane (clearHead x l) k = getLane s k := fun x hx =>
    ((getLane_clearHead x l k).trans (if_neg h)).trans (getLane_congr hx k)
  unfold clearLane
  split
  case h_4 => exact Prod.ext (hgone _ (by simp)) ((getFence_setFence_of_ne _ _ _ _ h).trans (getFence_congr (by simp) k))
  case h_3 => exact Prod.ext (getLane_setLane_of_ne _ _ _ _ h) rfl
  case h_1 => exact Prod.ext (hgone _ (by simp)) (getFence_congr (by simp) k)
  case h_2 => exact Prod.ext (hgone _ (by simp)) (getFence_congr (by simp) k)
  all_goals rfl

@[simp] theorem clearLane_frame (s : State) (l : LaneId) :
    (clearLane s l).engine = s.engine ∧ (clearLane s l).stall = s.stall ∧ (clearLane s l).windows = s.windows ∧
    (clearLane s l).ctxs = s.ctxs ∧ (clearLane s l).serial = s.serial ∧ (clearLane s l).pool = s.pool ∧
    (clearLane s l).builder = s.builder ∧ (clearLane s l).slots = s.slots ∧ (clearLane s l).time = s.time ∧
    (clearLane s l).report = s.report ∧ (clearLane s l).orders = s.orders ∧ (clearLane s l).sweeper = s.sweeper ∧
    (clearLane s l).choices = s.choices ∧ (clearLane s l).pending = s.pending := by
  unfold clearLane
  repeat' split
  all_goals simp

theorem clearedLane_spec (x : Lane × Option FenceRec) :
    (clearedLane x).1.backlog = x.1.backlog ∧ (clearedLane x).1.head.bind (·.hold) = none ∧
    (∀ h ∈ (clearedLane x).1.head, ∃ k ∈ x.1.head, k.req = h.req) ∧
    ((clearedLane x).2.isSome = true → x.2.isSome = true ∧ x.1.head.bind (·.hold) ≠ some .fence) := by
  unfold clearedLane
  split <;> simp_all [Head.hold]

/-- R33: the windows after each has taken its staged definition. -/
theorem getWin_drainApply_of_ne (s : State) (w v : WinId) (h : w ≠ v) : getWin (drainApply s w) v = getWin s v := by
  have hhand : ∀ x : State, getWin (handApplied x w) v = getWin x v := by
    intro x
    unfold handApplied
    split
    · exact getWin_congr (by simp) v
    · exact getWin_modWin_of_ne _ _ _ _ h
  unfold drainApply
  split
  · split
    · rw [hhand, applyDef, getWin_congr (stopSweepOf_frame _ _).2.2.2.2.1, getWin_modWin_of_ne _ _ _ _ h]
    · rfl
  · rfl

/-- R33: a window's entry after its own turn, but for the record it may owe. -/
theorem getWin_drainApply_self (s : State) (w : WinId) :
    ∃ o, getWin (drainApply s w) w = { takeStaged (getWin s w) with owedApplied := o } := by
  have hhand : ∀ x : State, ∃ o, getWin (handApplied x w) w = { getWin x w with owedApplied := o } := by
    intro x
    unfold handApplied
    split
    · exact ⟨_, (getWin_congr (by simp) w).trans rfl⟩
    · exact ⟨_, getWin_modWin_self _ _ _⟩
  unfold drainApply
  split
  next hz =>
    split
    next t ht =>
      obtain ⟨o, ho⟩ := hhand (applyDef s w t)
      refine ⟨o, ho.trans ?_⟩
      rw [applyDef, getWin_congr (stopSweepOf_frame _ _).2.2.2.2.1, getWin_modWin_self]
      simp [takeStaged, hz, ht]
    next ht => exact ⟨(getWin s w).owedApplied, by rw [takeStaged, if_pos hz, ht, Option.elim]⟩
  next hz => exact ⟨(getWin s w).owedApplied, by simp [takeStaged, hz]⟩

theorem takeStaged_spec (x : Window) :
    (takeStaged x).bound = x.bound ∧ (x.bound = 0 → (takeStaged x).staged = none) ∧
    ((x.state = .off ↔ x.defn = none) → ((takeStaged x).state = .off ↔ (takeStaged x).defn = none)) ∧
    describedRegions (takeStaged x) ⊆ describedRegions x := by
  unfold takeStaged
  split
  next hz =>
    cases hs : x.staged with
    | none => simp [hs]
    | some t =>
      cases t with
      | disabled => simp [appliedEntry, describedRegions, Window.region]
      | enabled d => simp [appliedEntry, describedRegions, Window.region, hs]
  next hz => simp [hz]

/-- The pending list never passes 32 records (R169). -/
theorem Move.list_le (hs : s.report.list.length ≤ 32) (h : Move false s t) : t.report.list.length ≤ 32 := by
  cases h with
  | quiet h => rw [h.list]; exact hs
  | cleared h => exact h.list hs
  | builds rs hl hr => rw [(build_report s rs).2.2]; simpa using hl
  | departs r rest hl hm => rw [hl] at hs; exact Nat.le_of_succ_le hs
  | _ => simpa using hs

theorem Moves.list_le (h : Moves false s t) (hs : s.report.list.length ≤ 32) : t.report.list.length ≤ 32 :=
  h.keep (I := fun x => x.report.list.length ≤ 32) Move.list_le hs

theorem drainApplies_list_le (xs : List WinId) (hrun : s.engine.state = .running) (hl : s.report.list.length ≤ 32) :
    (xs.foldl drainApply s).report.list.length ≤ 32 := by
  induction xs generalizing s with
  | nil => exact hl
  | cons w xs ih =>
    exact ih (by simpa using hrun) ((drainApply_moves_takeStaged w (.inr hrun)).list_le hl)

section ClearAll

/-! The lists of lanes and windows are kept as variables here: a proof must not run the fold. -/

variable {ls : List LaneId} {ws : List WinId}

/-- Windows, counts and lanes as CLEAR-ALL leaves them, before the draining windows take their definitions. -/
def clearedState (ls : List LaneId) (s : State) : State := freeAll (clearSlots (ls.foldl clearLane s))

/-- The state that CLEAR-ALL leaves. -/
def afterClearAll (ls : List LaneId) (ws : List WinId) (s : State) : State :=
  ws.foldl drainApply (stopSweepFor (clearedState ls s) .cleared)

theorem orderClearAll_fst (o : Order) (s : State) : (orderClearAll o s).1 = afterClearAll allLanes allWins s := by
  simp only [orderClearAll, afterClearAll, clearedState]

theorem clearedState_frame (ls : List LaneId) (s : State) :
    (clearedState ls s).engine = s.engine ∧ (clearedState ls s).stall = s.stall ∧
    (clearedState ls s).serial = s.serial ∧ (clearedState ls s).report = s.report ∧
    (clearedState ls s).orders = s.orders ∧ (clearedState ls s).time = s.time ∧
    (clearedState ls s).sweeper = s.sweeper := by
  simp only [clearedState, freeAll, clearSlots, dropReconcileReads_frame, modCounters_engine, modCounters_stall,
    modCounters_serial, modCounters_report, modCounters_orders, modCounters_time, modCounters_sweeper]
  exact ⟨foldl_unchanged (·.engine) _ (by simp) ls s, foldl_unchanged (·.stall) _ (by simp) ls s,
    foldl_unchanged (·.serial) _ (by simp) ls s, foldl_unchanged (·.report) _ (by simp) ls s,
    foldl_unchanged (·.orders) _ (by simp) ls s, foldl_unchanged (·.time) _ (by simp) ls s,
    foldl_unchanged (·.sweeper) _ (by simp) ls s⟩

/-- R128: every lane after the disposal of the held heads. -/
theorem laneAndFence_clearedState (hn : ls.Nodup) (hm : ∀ l, l ∈ ls) (s : State) (l : LaneId) :
    laneAndFence (clearedState ls s) l = clearedLane (laneAndFence s l) := by
  obtain ⟨x, hx, hfold⟩ := foldl_own laneAndFence laneAndFence_clearLane_of_ne hn (hm l) s
  rw [← hx, ← laneAndFence_clearLane_self, ← hfold]
  rfl

theorem clearedState_tracks (ls : List LaneId) (s : State) :
    (∀ c, getCtx (clearedState ls s) c = Context.free) ∧ (∀ l, getSlot (clearedState ls s) l = .empty) ∧
    (clearedState ls s).pool = { s.pool with level := 2048 } ∧
    (clearedState ls s).builder = { building := none, queue := [] } ∧
    ∀ w, getWin (clearedState ls s) w = { getWin s w with bound := 0 } := by
  have hpool : (ls.foldl clearLane s).pool = s.pool := foldl_unchanged (·.pool) _ (by simp) ls s
  have hwin : (ls.foldl clearLane s).windows = s.windows := foldl_unchanged (·.windows) _ (by simp) ls s
  refine ⟨fun c => by simp [clearedState, freeAll, getCtx], fun l => by simp [clearedState, freeAll, clearSlots, getSlot],
    ?_, rfl, fun w => by simp [clearedState, freeAll, clearSlots, getWin, hwin]⟩
  simp only [clearedState, freeAll, clearSlots, dropReconcileReads_frame, modCounters_pool, hpool, Config.poolSize]

theorem afterClearAll_unchanged {β : Type} (g : State → β) (h1 : ∀ x w, g (drainApply x w) = g x)
    (h2 : ∀ x c, g (stopSweepFor x c) = g x) : g (afterClearAll ls ws s) = g (clearedState ls s) :=
  (foldl_unchanged g _ h1 _ _).trans (h2 _ _)

/-- R33: each window after CLEAR-ALL, but for the record it may owe. -/
theorem getWin_afterClearAll (hn : ws.Nodup) (hm : ∀ w, w ∈ ws) (w : WinId) :
    ∃ b, getWin (afterClearAll ls ws s) w = { takeStaged { getWin s w with bound := 0 } with owedApplied := b } := by
  obtain ⟨x, hx, hfold⟩ := foldl_own getWin getWin_drainApply_of_ne hn (hm w) (stopSweepFor (clearedState ls s) .cleared)
  obtain ⟨b, hb⟩ := getWin_drainApply_self x w
  refine ⟨b, hfold.trans (hb.trans ?_)⟩
  rw [hx, getWin_congr (stopSweepFor_frame _ _).2.2.2.2.1, (clearedState_tracks ls s).2.2.2.2]

theorem afterClearAll_list_le (hrun : s.engine.state = .running) (hl : s.report.list.length ≤ 32) :
    (afterClearAll ls ws s).report.list.length ≤ 32 := by
  obtain ⟨hengine, -, -, hreport, -⟩ := clearedState_frame ls s
  have hrun' : (clearedState ls s).engine.state = .running := by rw [hengine, hrun]
  exact drainApplies_list_le ws (by simpa using hrun')
    ((stopSweepFor_moves _ (.inr hrun')).list_le (by rw [hreport]; exact hl))

theorem afterClearAll_cleared (hln : ls.Nodup) (hlm : ∀ l, l ∈ ls) (hwn : ws.Nodup) (hwm : ∀ w, w ∈ ws)
    (hrun : s.engine.state = .running) : ClearedFrom s (afterClearAll ls ws s) := by
  obtain ⟨hengine, hstall, -, hreport, horders, -, -⟩ := clearedState_frame ls s
  obtain ⟨hctxs, hslots, hpool, hbuilder, -⟩ := clearedState_tracks ls s
  have hlane : ∀ l, laneAndFence (afterClearAll ls ws s) l = clearedLane (laneAndFence s l) := fun l =>
    (Prod.ext (getLane_congr (afterClearAll_unchanged (·.lanes) (by simp) (by simp)) l)
      (getFence_congr (afterClearAll_unchanged (·.fence) (by simp) (by simp)) l)).trans
      (laneAndFence_clearedState hln hlm s l)
  have hlane1 : ∀ l, getLane (afterClearAll ls ws s) l = (clearedLane (laneAndFence s l)).1 :=
    fun l => congrArg Prod.fst (hlane l)
  have hlane2 : ∀ l, getFence (afterClearAll ls ws s) l = (clearedLane (laneAndFence s l)).2 :=
    fun l => congrArg Prod.snd (hlane l)
  have hrest : reportRest (afterClearAll ls ws s) = reportRest s :=
    (afterClearAll_unchanged reportRest (by simp) (by simp)).trans (reportRest_congr hreport)
  have hcounts := fun {β : Type} (f : ReportUnit → β) => congrArg f hrest
  exact
    { running := hrun
      engine := (afterClearAll_unchanged (·.engine) (by simp) (by simp)).trans hengine
      stall := (afterClearAll_unchanged (·.stall) (by simp) (by simp)).trans hstall
      backlog := fun l => by rw [hlane1]; exact (clearedLane_spec _).1
      noHold := fun l => by rw [hlane1]; exact (clearedLane_spec _).2.1
      heads := fun l => by rw [hlane1]; exact (clearedLane_spec _).2.2.1
      slots := fun l =>
        (getSlot_congr (afterClearAll_unchanged (·.slots) (by simp) (by simp)) l).trans (hslots l)
      fence := fun l => by rw [hlane2]; exact (clearedLane_spec _).2.2.2
      ctxs := fun c => (getCtx_congr (afterClearAll_unchanged (·.ctxs) (by simp) (by simp)) c).trans (hctxs c)
      pool := (afterClearAll_unchanged (·.pool) (by simp) (by simp)).trans hpool
      builder := (afterClearAll_unchanged (·.builder) (by simp) (by simp)).trans hbuilder
      bound := fun w => by
        obtain ⟨b, hb⟩ := getWin_afterClearAll (ls := ls) (s := s) hwn hwm w
        obtain ⟨hbound, hstaged, -⟩ := takeStaged_spec { getWin s w with bound := 0 }
        rw [hb]
        exact ⟨hbound, hstaged rfl⟩
      regions := fun w => by
        obtain ⟨b, hb⟩ := getWin_afterClearAll (ls := ls) (s := s) hwn hwm w
        obtain ⟨-, -, hoff, hregions⟩ := takeStaged_spec { getWin s w with bound := 0 }
        rw [hb]
        exact ⟨hoff, hregions⟩
      list := afterClearAll_list_le hrun
      counts := ⟨hcounts (·.producer), hcounts (·.consumer), hcounts (·.inFlight)⟩
      shadow := congrArg OrderUnit.shadow ((afterClearAll_unchanged (·.orders) (by simp) (by simp)).trans horders) }

end ClearAll

theorem orderClearAll_cleared (o : Order) (hrun : s.engine.state = .running) : ClearedFrom s (orderClearAll o s).1 := by
  rw [orderClearAll_fst]
  exact afterClearAll_cleared nodup_allLanes mem_allLanes nodup_allWins mem_allWins hrun

end Sys2Proof.Machine
end

section
/-! Every command as a chain of moves. -/

set_option Elab.async false

namespace Sys2Proof.Machine

open Relation

variable {ld : Bool} {s t : State}

/-! ### Orders (R166) -/

theorem able_running (h : able s = true) : s.engine.state = .running := by
  simp only [able, isRunning, Bool.and_eq_true, decide_eq_true_eq] at h
  exact h.1.1.1

theorem able_owed (h : able s = true) (c : CtxId) : (getCtx s c).owed = 0 := by
  simp only [able, anyOwed, Bool.and_eq_true, Bool.not_eq_true', Bool.or_eq_false_iff] at h
  have := List.any_eq_false.mp h.2.1.2 (getCtx s c) (by simp [getCtx])
  simpa using this

theorem foundOrder_able {o : Order} (h : foundOrder s = some o) : able s = true := by
  simp only [foundOrder] at h
  split at h
  next g => simp only [Bool.and_eq_true] at g; exact g.1.1
  next => cases h

/-- An order's effects are a chain of moves and leave the engine as it is. -/
def OrderMoves (s : State) (x : State × Done) : Prop := Moves false s x.1 ∧ x.1.engine = s.engine

theorem OrderMoves.same {d : Done} : OrderMoves s (s, d) := ⟨.refl, rfl⟩

theorem OrderMoves.of_core {d : Done} (h : SameCore s t) (he : t.engine = s.engine) : OrderMoves s (t, d) := ⟨h.moves, he⟩

section Orders

variable (o : Order) (hrun : s.engine.state = .running)

include hrun

theorem running_ne_reset : s.engine.state ≠ .reset := by rw [hrun]; simp

theorem placeDefinition_moves (w : WinId) (d : TakenDef) (hv : validate s w (some d) = none) :
    OrderMoves s (placeDefinition s w d) := by
  unfold placeDefinition
  split
  · exact ⟨applyDef_moves w d (.inl (running_ne_reset hrun)) hv (.inr hrun), by simp⟩
  next h => exact ⟨(Move.staged w d (running_ne_reset hrun) (fun e => h (.inr e)) hv).moves, rfl⟩

theorem orderSetWindow_moves : OrderMoves s (orderSetWindow o s) := by
  unfold orderSetWindow
  split
  · exact .same
  · dsimp only
    split
    · exact .same
    next ht hv => exact placeDefinition_moves hrun _ _ (by rw [← hv, ← ht])
    · exact .same

omit hrun in
theorem orderRelease_moves : OrderMoves s (orderRelease o s) := by
  unfold orderRelease
  split
  · exact .same
  next w _ =>
    split
    next h =>
      refine ⟨(Move.win w (fun x => { x with state := .active, strikes := 0 }) { off := ?_ }).moves, rfl⟩
      rw [h]
      simp
    next => exact .same

omit hrun in
theorem openBay_moves (w : WinId) (d : WinDef) : OrderMoves s (openBay o s w d) := by
  simp only [openBay]
  split
  · exact .same
  · split
    · exact .same
    next hl =>
      repeat' split
      · exact .same
      · exact .same
      · exact .same
      next c hc =>
        exact ⟨(Move.bound c w _ _ _ _ (free_of_lowestFree hc) (by simpa using hl)).moves, by simp⟩

omit hrun in
theorem orderOpen_moves : OrderMoves s (orderOpen o s) := by
  unfold orderOpen
  split
  · exact .same
  · split
    case h_4 => split
                · exact .same
                · exact openBay_moves o _ _
    all_goals exact .same

omit hrun in
/-- An update of the builder alone passes through the end of a transfer. -/
theorem handTransferEnd_builder (b : Builder) (c : CtxId) (f : FinalRec) :
    handTransferEnd { s with builder := b } c f = { handTransferEnd s c f with builder := b } := by
  unfold handTransferEnd
  rw [show hasRoom { s with builder := b } 3 = hasRoom s 3 from rfl]
  split <;> rfl

omit hrun in
theorem handFenced_builder (b : Builder) (w : WinId) :
    handFenced { s with builder := b } w = { handFenced s w with builder := b } := by
  unfold handFenced
  rw [show hasRoom { s with builder := b } 1 = hasRoom s 1 from rfl]
  split <;> rfl

omit hrun in
theorem notifyWindow_builder (b : Builder) (w : WinId) (f : CtxState) :
    notifyWindow { s with builder := b } w f = { notifyWindow s w f with builder := b } := by
  simp only [notifyWindow]
  rw [show getWin (modWin { s with builder := b } w fun x => struckEntry x f) w =
    getWin (modWin s w fun x => struckEntry x f) w from rfl]
  split
  · exact handFenced_builder (s := modWin (modWin s w fun x => struckEntry x f) w fun x => { x with state := .fenced }) b w
  · rfl

omit hrun in
theorem fenceOutcome_builder (b : Builder) (c : CtxId) (f : CtxState) :
    fenceOutcome { s with builder := b } c f = { fenceOutcome s c f with builder := b } := by
  have hfold : ∀ (op : State → LaneId → State) (hop : ∀ x l, op { x with builder := b } l = { op x l with builder := b })
      (ls : List LaneId) (x : State), ls.foldl op { x with builder := b } = { ls.foldl op x with builder := b } := by
    intro op hop ls
    induction ls with
    | nil => exact fun _ => rfl
    | cons l ls ih => intro x; rw [List.foldl_cons, hop, ih, List.foldl_cons]
  have hrelease : ∀ x l, releaseRead c { x with builder := b } l = { releaseRead c x l with builder := b } := by
    intro x l
    unfold releaseRead
    rw [show getFence { x with builder := b } l = getFence x l from rfl,
      show getLane { x with builder := b } l = getLane x l from rfl]
    repeat' split
    all_goals rfl
  have hfail : ∀ x l, failRead c { x with builder := b } l = { failRead c x l with builder := b } := by
    intro x l
    unfold failRead
    rw [show getFence { x with builder := b } l = getFence x l from rfl,
      show getLane { x with builder := b } l = getLane x l from rfl]
    repeat' split
    all_goals rfl
  unfold fenceOutcome
  split
  · exact hfold _ hrelease _ _
  · exact hfold _ hfail _ _

omit hrun in
theorem announceFinal_builder (b : Builder) (c : CtxId) (f : FinalRec) :
    announceFinal { s with builder := b } c f = { announceFinal s c f with builder := b } := by
  simp only [announceFinal, fenceOutcome_builder]
  rw [show windowOf { fenceOutcome s c f.state with builder := b } c = windowOf (fenceOutcome s c f.state) c from rfl]
  split
  · rw [notifyWindow_builder, handTransferEnd_builder]
    rfl
  · rw [handTransferEnd_builder]
    rfl

theorem closeContext_moves (w : WinId) (bay : Nat) (c : CtxId)
    (hc : (getCtx s c).state = .priming ∨ (getCtx s c).state = .collecting) :
    Moves false s (closeContext s w bay c) := by
  have hclose : { enterFinal s c { state := .aborted, cause := .closed } with builder := abandonBuild s.builder c } =
      announceFinal (finalise { s with builder := abandonBuild s.builder c } c { state := .aborted, cause := .closed }) c
        { state := .aborted, cause := .closed } := by
    rw [enterFinal_eq, ← announceFinal_builder]
    rfl
  have hdef : closeContext s w bay c =
      releasePriming { enterFinal s c { state := .aborted, cause := .closed } with
        builder := abandonBuild s.builder c } w bay := by
    simp only [closeContext, (enterFinal_frame _ _ _).2.2.2.1]
  rw [hdef, hclose]
  refine ((Move.finished c _ _ rfl (.inr ⟨hc, rfl⟩)).moves.trans (announceFinal_moves ?_ (.inr (by simpa using hrun)))).trans
    (releasePriming_moves _ _)
  rw [getCtx_finalise_self]
  rfl

omit hrun in
theorem orderBay_lookup {w : WinId} {c : CtxId} (h : orderBay o s = .inr (w, c)) : lookup s w o.bay = some c := by
  unfold orderBay at h
  split at h
  · cases h
  · split at h
    · cases h
    · split at h
      · cases h
      · split at h
        · cases h
        next hl => cases h; exact hl

theorem orderClose_moves : OrderMoves s (orderClose o s) := by
  unfold orderClose
  split
  · exact .same
  · split
    next hc => exact ⟨closeContext_moves hrun _ _ _ hc, by simp [closeContext]⟩
    next => exact .same

theorem retireContext_moves (w : WinId) (c : CtxId) (hf : (getCtx s c).state.isFinal = true)
    (ho : (getCtx s c).owed = 0) : Moves false s (retireContext s w c) := by
  have hctx : getCtx (abandonVisit (modCtx s c fun cx => { cx with isolated := false }) c) c =
      { getCtx s c with isolated := false } := by
    rw [getCtx_congr (abandonVisit_frame _ _).2.2.2.2.2.1, getCtx_modCtx_self]
  have hclear : Moves false s (abandonVisit (modCtx s c fun cx => { cx with isolated := false }) c) :=
    (Move.ctx c _ { free := MinorCtx.of_state (isFinal_ne_free hf) }).moves.trans (abandonVisit_moves c (.inr hrun))
  simp only [retireContext]
  split
  · refine hclear.trans (returnToFree_moves ?_ ?_ (.inr (by simpa using hrun)))
    · rw [hctx]; rintro e; rw [e] at hf; cases hf
    · rw [hctx]; rintro e; rw [e] at hf; cases hf
  · refine (hclear.trans (SameCore.moves (t := ageTaken _ c) {})).trans (Move.guarded c _ ?_ ?_).moves
    · exact (congrArg (fun x => x.state.isFinal) hctx).trans hf
    · exact (congrArg Context.owed hctx).trans ho

theorem orderRetire_moves (ho : ∀ c, (getCtx s c).owed = 0) : OrderMoves s (orderRetire o s) := by
  unfold orderRetire
  split
  · exact .same
  · split
    · exact .same
    · split
      next hf =>
        refine ⟨retireContext_moves hrun _ _ hf (ho _), ?_⟩
        simp only [retireContext]
        split <;> simp [ageTaken]
      next => exact .same

theorem orderClearAll_moves : OrderMoves s (orderClearAll o s) :=
  ⟨(Move.cleared (orderClearAll_cleared o hrun)).moves, (orderClearAll_cleared o hrun).engine⟩

theorem orderRecheck_moves : OrderMoves s (orderRecheck o s) := by
  unfold orderRecheck
  split
  · exact .same
  · split
    · exact .same
    · split
      · exact .same
      · split
        · exact .same
        · split
          · exact .of_core {} rfl
          · split
            · refine ⟨(discardVisit_core.moves.trans (handSweeper_moves _ (.inr (by simpa using hrun)))).tail (.quiet {}), ?_⟩
              simp [startSweep]
            · exact .same

omit hrun in
theorem orderStep_moves : OrderMoves s (orderStep o s) := by
  unfold orderStep
  split
  · exact .same
  · exact .same
  · exact .of_core {} rfl

theorem orderStopSweep_moves : OrderMoves s (orderStopSweep o s) := by
  unfold orderStopSweep
  split
  · exact .same
  · exact ⟨stopSweepFor_moves _ (.inr hrun), by simp⟩
  · exact ⟨stopSweepFor_moves _ (.inr hrun), by simp⟩

omit hrun in
theorem requestSnapshot_core : SameCore s (requestSnapshot s) := by
  unfold requestSnapshot
  split <;> exact {}

omit hrun in
theorem orderSnapshot_moves : OrderMoves s (orderSnapshot o s) := .of_core requestSnapshot_core (by simp)

omit hrun in
theorem orderSetEngine_moves : OrderMoves s (orderSetEngine o s) := .of_core {} rfl

omit hrun in
theorem orderUnknown_moves : OrderMoves s (orderUnknown o s) := .same

theorem carryOut_moves (ho : ∀ c, (getCtx s c).owed = 0) : OrderMoves s (carryOut o s) := by
  unfold carryOut
  split
  · exact orderSetWindow_moves o hrun
  split
  · exact orderRelease_moves o
  split
  · exact orderOpen_moves o
  split
  · exact orderClose_moves o hrun
  split
  · exact orderRetire_moves o hrun ho
  split
  · exact orderClearAll_moves o hrun
  split
  · exact orderRecheck_moves o hrun
  split
  · exact orderStep_moves o
  split
  · exact orderStopSweep_moves o hrun
  split
  · exact orderSnapshot_moves o
  split
  · exact orderSetEngine_moves o
  · exact orderUnknown_moves o

end Orders

end Sys2Proof.Machine
end

section
/-! Every step as a chain of moves. -/

set_option Elab.async false

namespace Sys2Proof.Machine

open Relation

variable {ld : Bool} {s t : State}

/-! ### Orders are taken (R165, R166) -/

theorem takeOrder_moves {f : Order → State → State × Done} {o : Order} (h : foundOrder s = some o)
    (hf : ∀ s, s.engine.state = .running → (∀ c, (getCtx s c).owed = 0) → OrderMoves s (f o s)) :
    Moves false s (takeOrder f o s) := by
  have hable := foundOrder_able h
  obtain ⟨hmoves, heng⟩ := hf (clearDue s) (able_running hable) (able_owed hable)
  have hrun : (f o (clearDue s)).1.engine.state = .running := by rw [heng]; exact able_running hable
  exact ((((SameCore.moves (t := clearDue s) {}).trans hmoves).trans
    (handOrderDone_moves (doneReport o (f o (clearDue s)).2) (.inr hrun))).tail (.quiet {})).trans (settle_moves s)

theorem takeCoded_moves {q : Byte → Bool} {f : Order → State → State × Done}
    (hf : ∀ o s, s.engine.state = .running → (∀ c, (getCtx s c).owed = 0) → OrderMoves s (f o s))
    (h : takeCoded q f s = .next t) : Moves false s t := by
  unfold takeCoded at h
  split at h
  · split at h
    next o ho =>
      split at h
      · cases h; exact takeOrder_moves ho (hf o)
      · cases h; exact .refl
    next => cases h; exact .refl
  · cases h; exact .refl

theorem execOrderExamination_moves (h : execOrderExamination s = .next t) : Moves false s t := by
  unfold execOrderExamination at h
  split at h
  · split at h
    next o ho => cases h; exact takeOrder_moves ho fun _ => carryOut_moves o
    next => cases h; exact SameCore.moves {}
  · cases h; exact .refl

theorem execConsumerValueWritten_moves (h : execConsumerValueWritten s = .next t) : Moves false s t := by
  unfold execConsumerValueWritten at h
  split at h
  next v rest hrun hin =>
    dsimp only at h
    split at h
    next hv =>
      cases h
      exact ((SameCore.moves (t := modReport s fun u => { u with consumerIn := rest }) {}).tail
        (.consumed v hv)).trans (settle_moves s)
    next => cases h; exact SameCore.moves {}
  next => cases h; exact .refl

/-! ### Lanes (R116 to R119, R129, R130) -/

theorem treatFresh_moves {l : LaneId} {r : Request} (hrun : s.engine.state = .running) (ha : awaits s l r) :
    Moves false s (settle s (treatHead s l r)) := (treatHead_moves hrun ha).trans (settle_moves s)

theorem acceptRunning_moves {r : Request} (hrun : s.engine.state = .running) (hr : r.wf = true) :
    Moves false s (acceptRunning s r) := by
  unfold acceptRunning
  split
  next hh =>
    split
    · exact (Move.accepted r hr).moves
    · exact (treatFresh_moves hrun (.inl hh)).tail (.accepted r hr)
  all_goals exact (Move.accepted r hr).moves

theorem acceptPassing_moves {r : Request} (hrun : s.engine.state ≠ .running) (hr : r.wf = true) :
    Moves false s (acceptPassing s r) := by
  unfold acceptPassing
  split
  · split
    · exact (Move.accepted r hr).moves
    · exact (forwardHead_moves _ _ (.inl hrun)).tail (.accepted r hr)
  · exact (Move.accepted r hr).moves

theorem execRequestArrival_moves {r : Request} (h : execRequestArrival r s = .next t) : Moves false s t := by
  unfold execRequestArrival at h
  split at h
  next hr =>
    split at h
    · cases h; exact .refl
    · split at h
      case h_1 => cases h; exact .refl
      case h_2 => cases h; exact .refl
      case h_3 hrun => cases h; exact acceptRunning_moves hrun hr
      case h_4 he => cases h; exact acceptPassing_moves (by rw [he]; simp) hr
      case h_5 he => cases h; exact acceptPassing_moves (by rw [he]; simp) hr
  next => cases h

theorem headTreated_moves {l : LaneId} {r : Request} (ha : awaits s l r) : Moves false s (headTreated s l r) := by
  unfold headTreated
  split
  case h_1 hrun => exact treatFresh_moves hrun ha
  case h_2 he => exact forwardHead_moves _ _ (.inl (by rw [he]; simp))
  case h_3 he => exact forwardHead_moves _ _ (.inl (by rw [he]; simp))
  all_goals exact .refl

theorem execHeadEvent_moves {l : LaneId} (h : execHeadEvent l s = .next t) : Moves false s t := by
  unfold execHeadEvent at h
  dsimp only at h
  split at h
  next hh =>
    split at h
    · cases h; exact .refl
    · cases h; exact (Move.movedUp l hh).moves.tail (.unstalled l)
  next hh => cases h; exact headTreated_moves (.inl hh)
  next hh => cases h; exact headTreated_moves (.inr hh)
  next => cases h; exact .refl

theorem memoryError_moves (x : Option (CtxId × Word32)) (hb : MayBuild ld s) : Moves ld s (memoryError s x) := by
  unfold memoryError
  split
  · exact .refl
  · split
    · exact loseTransfer_moves _ _ hb
    · exact .refl

theorem retireIssued_core (id : Nat) : SameCore s (retireIssued s id) := {}

theorem execResponseRelay_moves {id : Nat} {resp : MemResp} (h : execResponseRelay id resp s = .next t) :
    Moves false s t := by
  unfold execResponseRelay at h
  split at h
  next f k a n d hfound =>
    split at h
    · dsimp only at h
      split at h
      · cases h; exact SameCore.moves {}
      · split at h
        next hrun =>
          cases h
          simp only [isRunning, decide_eq_true_eq] at hrun
          refine ((SameCore.moves (t := modCounters (respond (retireIssued s id) _) _) {}).trans
            (memoryError_moves _ (.inr ?_))).trans (settle_moves s)
          exact hrun
        next => cases h; exact SameCore.moves {}
    · cases h
  next => cases h; exact .refl

theorem noteIssue_moves (o : Owner) : Moves ld s (noteIssue s o) := by
  cases o with
  | reconcile l => exact (Move.noted l).moves
  | _ => exact SameCore.moves {}

theorem execMemoryIssue_moves (h : execMemoryIssue s = .next t) : Moves false s t := by
  unfold execMemoryIssue at h
  split at h
  · cases h; exact .refl
  · cases h; exact (SameCore.moves {}).trans (noteIssue_moves _)

theorem execOrphanResponse_moves {id : Nat} {resp : MemResp} (h : execOrphanResponse id resp s = .next t) :
    Moves false s t := by
  unfold execOrphanResponse at h
  split at h
  · cases h; exact SameCore.moves {}
  · cases h; exact .refl

/-! ### The Time Base (chapter 9) -/

theorem execMicrosecondStep_moves (h : execMicrosecondStep s = .next t) : Moves false s t := by
  unfold execMicrosecondStep at h
  split at h
  · cases h; exact SameCore.moves {}
  · cases h; exact .refl

theorem execTick_moves (h : execTick s = .next t) : Moves false s t := by
  rcases execTick_cases h with ⟨-, -, -, rfl⟩ | rfl
  · exact SameCore.moves {}
  · exact .refl

theorem ageIdle_moves {c : CtxId} (hc : (getCtx s c).state = .collecting) (hb : MayBuild false s) :
    Moves false s (ageIdle s c) := by
  rcases ageIdle_cases s c with ⟨n, -, h⟩ | ⟨n, -, -, h⟩ | ⟨-, h⟩
  · rw [h]; exact (Move.ctx c _ { free := MinorCtx.of_state (by rw [hc]; simp) }).moves
  · rw [h]; exact (enterFinal_moves hc rfl hb).trans (settle_moves s)
  · rw [h]

theorem execIdleCountEnd_moves {c : CtxId} (h : execIdleCountEnd c s = .next t) : Moves false s t := by
  unfold execIdleCountEnd at h
  split at h
  next g =>
    have htaken : Moves false s (ageTaken s c) := SameCore.moves {}
    split at h
    case h_1 hc => cases h; exact htaken.trans (ageIdle_moves hc (.inr g.1))
    case h_2 => cases h; exact .refl
    all_goals cases h; exact htaken
  next => cases h; exact .refl

theorem ageGuard_moves {c : CtxId} (hc : (getCtx s c).state = .guard) (hb : MayBuild false s) :
    Moves false s (ageGuard s c) := by
  rcases ageGuard_cases s c with ⟨n, -, h⟩ | ⟨n, -, -, h⟩ | ⟨-, h⟩
  · rw [h]; exact (Move.ctx c _ { free := MinorCtx.of_state (by rw [hc]; simp) }).moves
  · rw [h]; exact (returnToFree_moves (by rw [hc]; simp) (by rw [hc]; simp) hb).trans (settle_moves s)
  · rw [h]

theorem execGuardEnd_moves {c : CtxId} (h : execGuardEnd c s = .next t) : Moves false s t := by
  unfold execGuardEnd at h
  split at h
  next g => cases h; exact (SameCore.moves (t := ageTaken s c) {}).trans (ageGuard_moves g.2.2 (.inr g.1))
  next => cases h; exact .refl

theorem expireRead_moves {l : LaneId} (r : Request) (w : WinId) (hf : (getFence s l).isSome = true)
    (hh : (getLane s l).head.isSome = true) : Moves ld s (expireRead s l r w) := by
  have hanswered : Moves ld s (setFence (partAnswer s l r) l none) :=
    ((SameCore.moves (t := answerError s r) {}).tail (.readGone (s := answerError s r) l hf hh)).tail (.quiet {})
  exact (hanswered.trans (modWin_counters_moves w fun k => { k with fenceErrors := raise k.fenceErrors 1 })).tail (.quiet {})

theorem execHoldCountEnd_moves {l : LaneId} (h : execHoldCountEnd l s = .next t) : Moves false s t := by
  unfold execHoldCountEnd at h
  split at h
  · split at h
    next f hd hf hh =>
      cases h
      refine (SameCore.moves (t := readTaken s l) {}).trans ?_
      unfold ageRead
      split
      · exact (Move.readAged (s := readTaken s l) l _ (Option.isSome_of_eq_some hf)).moves
      · exact expireRead_moves _ _ (Option.isSome_of_eq_some hf) (Option.isSome_of_eq_some hh)
    next => cases h; exact SameCore.moves {}
  · cases h; exact .refl

theorem execSettingsAdopt_moves (h : execSettingsAdopt s = .next t) : Moves false s t := by
  unfold execSettingsAdopt at h
  split at h
  · cases h; exact (SameCore.moves {}).trans (settle_moves s)
  · cases h; exact .refl

theorem ageCountdown_moves : Moves false s (ageCountdown s) := by
  rcases ageCountdown_cases s with ⟨n, -, h⟩ | ⟨n, -, -, h⟩ | ⟨-, h⟩
  · rw [h]; exact SameCore.moves {}
  · rw [h]; exact (SameCore.moves {}).trans requestSnapshot_core.moves
  · rw [h]

theorem execSnapshotCountdownEnd_moves (h : execSnapshotCountdownEnd s = .next t) : Moves false s t := by
  unfold execSnapshotCountdownEnd at h
  split at h
  · cases h; exact (SameCore.moves {}).trans ageCountdown_moves
  · cases h; exact .refl

/-! ### The Report Unit's own writes (R167, R171, R181) -/

theorem nextBlock_core : SameCore s (nextBlock s) := by
  unfold nextBlock
  split
  · exact {}
  · split
    · exact {}
    · split <;> exact {}

theorem execStatusBlockWriteDone_moves {id : Nat} (h : execStatusBlockWriteDone id s = .next t) : Moves false s t := by
  unfold execStatusBlockWriteDone at h
  split at h
  · cases h; exact (SameCore.moves {}).trans nextBlock_core.moves
  · cases h; exact .refl

theorem execRecordWriteDone_moves {id : Nat} (h : execRecordWriteDone id s = .next t) : Moves false s t := by
  unfold execRecordWriteDone at h
  split at h
  · split at h
    next hf =>
      cases h
      exact (((SameCore.moves (t := retireIssued s id) {}).tail (.counted hf)).tail (.quiet {})).trans (settle_moves s)
    next => cases h; exact SameCore.moves {}
  · cases h; exact SameCore.moves {}
  · cases h; exact .refl

theorem halt_moves (id : Nat) : Moves ld s (enterHalted (retireIssued s id)) :=
  (SameCore.moves (t := retireIssued s id) {}).tail .halts

theorem execEngineWriteError_moves {id : Nat} (h : execEngineWriteError id s = .next t) : Moves false s t := by
  unfold execEngineWriteError at h
  split at h
  · cases h; exact halt_moves id
  · cases h; exact halt_moves id
  · cases h; exact halt_moves id
  · cases h; exact .refl

/-! ### Visits (R155 to R157) -/

theorem handChunk_core (v : Visit) (n : Nat) : SameCore s (handChunk s v n) := by
  unfold handChunk
  dsimp only
  split <;> exact {}

theorem failVisit_moves (c : CtxId) (x : Cause) (v : Option Nat) (hb : MayBuild ld s) :
    Moves ld s (failVisit s c x v) := by
  unfold failVisit
  dsimp only
  split
  next hc =>
    have hcorrupted : Moves ld s (modSweeper (enterSecond s c { state := .corrupted, cause := x }) fun y =>
        { y with failed := y.failed + 1 }) := (enterSecond_moves hc (.inr rfl) hb).tail (.quiet {})
    split
    · exact hcorrupted.trans (handSweeper_moves _ (hb.congr (by simp)))
    · exact hcorrupted
  next => exact .refl

theorem failVisit_engine (c : CtxId) (x : Cause) (v : Option Nat) : (failVisit s c x v).engine = s.engine := by
  unfold failVisit
  dsimp only
  repeat' split
  all_goals simp

theorem judgeVisit_moves (c : CtxId) (v : Nat) (hb : MayBuild ld s) : Moves ld s (judgeVisit s c v) := by
  unfold judgeVisit
  split
  · exact (discardVisit_core.moves.tail (.quiet {})).trans (endVisit_moves (hb.congr (by simp)))
  · exact (discardVisit_core.moves.trans (failVisit_moves _ _ _ (hb.congr (by simp)))).trans
      (endVisit_moves (hb.congr (by simp [failVisit_engine])))

theorem beginVisit_moves (j : SweepJob) (hb : MayBuild ld s) : Moves ld s (beginVisit s j) := by
  have hskip : Moves ld s (endVisit (modSweeper s fun x => { x with skipped := x.skipped + 1 })) :=
    (SameCore.moves {}).trans (endVisit_moves hb)
  unfold beginVisit
  split
  · exact hskip
  · split
    · split
      · exact judgeVisit_moves _ _ hb
      · exact (handChunk_core _ _).moves
    · exact hskip

theorem execVisitBegin_moves (h : execVisitBegin s = .next t) : Moves false s t := by
  unfold execVisitBegin at h
  split at h
  next hrun _ _ _ _ => cases h; exact (beginVisit_moves _ (.inr hrun)).trans (settle_moves s)
  next => cases h; exact .refl

theorem takeRead_moves (v : Visit) (off : Nat) (data : List Byte) (hb : MayBuild ld s) :
    Moves ld s (takeRead s v off data) := by
  unfold takeRead
  dsimp only
  split
  · split
    · exact (handChunk_core _ _).moves
    · exact judgeVisit_moves _ _ hb
  · exact SameCore.moves {}

theorem isRunning_of_not_false (h : ¬ isRunning s = false) : s.engine.state = .running := by
  simpa [isRunning] using h

theorem execRecheckReadDone_moves {id : Nat} {data : List Byte} (h : execRecheckReadDone id data s = .next t) :
    Moves false s t := by
  unfold execRecheckReadDone at h
  split at h
  · split at h
    · cases h; exact .refl
    next hrun =>
      split at h
      · cases h
        exact ((retireIssued_core id).moves.trans
          (takeRead_moves _ _ _ (.inr (isRunning_of_not_false hrun)))).trans (settle_moves s)
      · cases h
  · cases h; exact .refl

theorem execRecheckReadError_moves {id : Nat} (h : execRecheckReadError id s = .next t) : Moves false s t := by
  unfold execRecheckReadError at h
  split at h
  · split at h
    · cases h; exact .refl
    next hrun =>
      cases h
      have hb : MayBuild false (retireIssued s id) := .inr (isRunning_of_not_false hrun)
      exact ((((SameCore.moves {}).trans discardVisit_core.moves).trans (failVisit_moves _ _ _ (hb.congr (by simp)))).trans
        (endVisit_moves (hb.congr (by simp [failVisit_engine])))).trans (settle_moves s)
  · cases h; exact .refl

/-! ### Ladders and reconcile reads (R7, R104 to R106) -/

theorem execLadderComplete_moves (h : execLadderComplete s = .next t) : Moves false s t := by
  unfold execLadderComplete at h
  split at h
  · cases h; exact .refl
  next c hb =>
    dsimp only at h
    split at h
    next b d hp _ _ =>
      cases h
      exact ((SameCore.moves (t := ageTaken s c) {}).tail (.collects c b.key d.idleLimit hb hp)).trans
        (releasePriming_moves _ _)
    next => cases h; exact Move.built.moves

theorem completeReconcile_moves {l : LaneId} {c : CtxId} {r : ReconRec} (old : List Byte)
    (hs : getSlot s l = .attached c r) (hrun : s.engine.state = .running) :
    Moves false s (completeReconcile s l c r old) := by
  have hported : Moves false s (modCounters (forward s r.write (trackOf (modCtx s c fun cx => correctedContext cx r old) c))
      fun k => { k with reconCompleted := raise k.reconCompleted 1 }) := SameCore.moves {}
  have hcorrected := (hported.tail (.reconciled (s := modCounters (forward s r.write
    (trackOf (modCtx s c fun cx => correctedContext cx r old) c))
      fun k => { k with reconCompleted := raise k.reconCompleted 1 }) l c r old hs hrun)).trans
        (releaseConflicts_moves r.write)
  unfold completeReconcile
  dsimp only
  split
  · refine hcorrected.trans (verdictOccasion_moves c (.inr ?_))
    simpa using hrun
  · exact hcorrected

theorem execReconcileReadReturn_moves {id : Nat} {data : List Byte} (h : execReconcileReadReturn id data s = .next t) :
    Moves false s t := by
  unfold execReconcileReadReturn at h
  split at h
  · split at h
    next hs =>
      split at h
      · cases h; exact .refl
      next hrun =>
        split at h
        · cases h
          exact ((retireIssued_core id).moves.trans
            (completeReconcile_moves data hs (isRunning_of_not_false hrun))).trans (settle_moves s)
        · cases h
    next => cases h; exact .refl
    next => cases h; exact .refl
  · cases h; exact .refl

/-- The request of a failed reconcile is forwarded and counted; no invariant speaks of either. -/
def failedPort (s : State) (c : CtxId) (r : ReconRec) : State :=
  modCounters (forward s r.write (trackOf s c)) fun k => { k with reconFailed := raise k.reconFailed 1 }

theorem failReconcile_eq (s : State) (l : LaneId) (c : CtxId) (r : ReconRec) :
    failReconcile s l c r =
      loseTransfer (releaseConflicts (setSlot (clearHead (failedPort s c r) l) l .empty) r.write) c .reconcileError := rfl

theorem finalise_releaseConflicts (s : State) (r : Request) (c : CtxId) (f : FinalRec) :
    finalise (releaseConflicts s r) c f = releaseConflicts (finalise s c f) r := rfl

theorem failReconcile_moves {l : LaneId} {c : CtxId} {r : ReconRec} (hs : getSlot s l = .attached c r)
    (hrun : s.engine.state = .running) : Moves false s (failReconcile s l c r) := by
  have hported : Moves false s (failedPort s c r) := SameCore.moves {}
  have hctx : getCtx (releaseConflicts (setSlot (clearHead (failedPort s c r) l) l .empty) r.write) c = getCtx s c := rfl
  have hslot : getSlot (failedPort s c r) l = .attached c r := hs
  rw [failReconcile_eq]
  unfold loseTransfer
  split
  next hc =>
    rw [hctx] at hc
    rw [enterFinal_eq, finalise_releaseConflicts]
    refine ((hported.tail (.slotFailed l c r { state := .lost, cause := .reconcileError } hslot hc rfl)).trans
      (releaseConflicts_moves r.write)).trans (announceFinal_moves ?_ (.inr ?_))
    · rw [getCtx_congr (releaseConflicts_frame _ _).2.2.2.2.2.1, getCtx_finalise_self]
      rfl
    · simpa [failedPort] using hrun
  next hc =>
    rw [hctx] at hc
    refine (hported.tail (.slotFreed l (by rw [hslot]; simp) fun k q e => ?_)).trans (releaseConflicts_moves r.write)
    cases e.symm.trans hslot
    exact ⟨hrun, hc⟩

theorem execReconcileReadError_moves {id : Nat} (h : execReconcileReadError id s = .next t) : Moves false s t := by
  unfold execReconcileReadError at h
  split at h
  · split at h
    next hs =>
      split at h
      · cases h; exact .refl
      next hrun =>
        cases h
        exact ((retireIssued_core id).moves.trans
          (failReconcile_moves hs (isRunning_of_not_false hrun))).trans (settle_moves s)
    next => cases h; exact .refl
    next => cases h; exact .refl
  · cases h; exact .refl

theorem execDetachedReadReturn_moves {id : Nat} {resp : MemResp} (h : execDetachedReadReturn id resp s = .next t) :
    Moves false s t := by
  unfold execDetachedReadReturn at h
  split at h
  · split at h
    next hs =>
      cases h
      exact ((SameCore.moves (t := forward (retireIssued s id) _ none) {}).tail (.slotFreed
        (s := forward (retireIssued s id) _ none) _ (fun e => by cases e.symm.trans hs)
          fun k q e => by cases e.symm.trans hs)).trans (releaseConflicts_moves _)
    next => cases h; exact .refl
    next => cases h; exact .refl
  · cases h; exact .refl

/-! ### The start-up load (R180) -/

theorem execResetRelease_moves {b : Bool} {cpb : BitVec 8} (h : execResetRelease b cpb s = .next t) :
    Moves false s t := by
  unfold execResetRelease at h
  split at h
  next hr =>
    split at h
    · cases h
      exact (Move.strapped cpb hr .bypassed _ (.inl ⟨rfl, rfl⟩)).moves
    · cases h
      exact (Move.strapped cpb hr .loading (.reading 64) (.inr rfl)).moves.tail (.quiet {})
  next => cases h; exact .refl

theorem loading_ne_idle {n : Nat} (h : s.engine.load = .reading n) : s.engine.load ≠ .idle := by rw [h]; simp

theorem clearing_ne_idle {n : Nat} (h : s.engine.load = .clearing n) : s.engine.load ≠ .idle := by rw [h]; simp

theorem fillShadow_moves (id off : Nat) (data : List Byte) :
    Moves ld s (modOrders (retireIssued s id) fun o => { o with shadow := copyBytes o.shadow off data }) :=
  (retireIssued_core id).moves.tail (.copied _ (copyBytes_wf _ _) (copyBytes_owned _ _))

theorem clearedShadow_moves (q : Host.Cell → Bool) :
    Moves ld s (modOrders s fun o => { o with shadow := o.shadow.filter q }) :=
  (Move.copied _ (filter_wf q) fun h c hc => h c (List.mem_of_mem_filter hc)).moves

theorem beginClears_moves (h : s.engine.load ≠ .idle) : Moves ld s (beginClears s) :=
  (((clearedShadow_moves fun c => !(inRing c.1 || inConsumer c.1)).tail .zeroed).tail (.loads (.clearing 41) h)).tail
    (.quiet {})

theorem execLoadReadDone_moves {id : Nat} {data : List Byte} (h : execLoadReadDone id data s = .next t) :
    Moves false s t := by
  unfold execLoadReadDone at h
  split at h
  next hl _ =>
    split at h
    · dsimp only at h
      split at h
      · cases h; exact (fillShadow_moves id _ data).trans (beginClears_moves (loading_ne_idle hl))
      · cases h; exact (fillShadow_moves id _ data).tail (.loads _ (loading_ne_idle hl))
    · cases h
  next => cases h; exact .refl

theorem execLoadClearDone_moves {id : Nat} (h : execLoadClearDone id s = .next t) :
    Moves false s t ∨ ∃ n, s.engine.load = .clearing n ∧ t = settle s (finishLoad (retireIssued s id)) := by
  unfold execLoadClearDone at h
  split at h
  next hl _ =>
    dsimp only at h
    split at h
    · cases h; exact .inr ⟨_, hl, rfl⟩
    · cases h; exact .inl ((retireIssued_core id).moves.tail (.loads _ (clearing_ne_idle hl)))
  next => cases h; exact .inl .refl

theorem execLoadError_moves {id : Nat} (h : execLoadError id s = .next t) : Moves false s t := by
  unfold execLoadError at h
  split at h
  · split at h
    · cases h; exact halt_moves id
    · cases h; exact .refl
  · split at h
    · cases h; exact halt_moves id
    · cases h; exact .refl
  · cases h; exact .refl

/-! ### Every step -/

theorem SameCore.trans {u : State} (h : SameCore s t) (k : SameCore t u) : SameCore s u :=
  { state := k.state.trans h.state, cpb := k.cpb.trans h.cpb, load := k.load.trans h.load
    faultN := k.faultN.trans h.faultN
    lanes := k.lanes.trans h.lanes, stall := k.stall.trans h.stall, windows := k.windows.trans h.windows
    ctxs := k.ctxs.trans h.ctxs, pool := k.pool.trans h.pool, builder := k.builder.trans h.builder
    slots := k.slots.trans h.slots, fence := k.fence.trans h.fence, list := k.list.trans h.list
    producer := k.producer.trans h.producer, consumer := k.consumer.trans h.consumer
    inFlight := k.inFlight.trans h.inFlight, shadow := k.shadow.trans h.shadow }

/-- What a step can do: a chain of moves, the pin reset, or the last event of the load. -/
inductive StepDoes (s : State) : State → Prop
  | moves {t : State} (h : Moves false s t) : StepDoes s t
  | reset {t : State} (h : SameCore State.reset t) (he : t.engine = State.reset.engine)
      (hr : t.report = State.reset.report) : StepDoes s t
  | loaded (x b : State) (h : SameCore s x) (hl : s.engine.load ≠ .idle) (hr : x.report = s.report) :
      StepDoes s (settle b (finishLoad x))

theorem exec_does {i : Instr} (h : exec i s = .next t) : StepDoes s t := by
  cases i with
  | pinReset => cases h; exact .reset {} rfl rfl
  | loadClearDone id =>
    rcases execLoadClearDone_moves h with h | ⟨n, hn, rfl⟩
    · exact .moves h
    · exact .loaded _ _ (retireIssued_core id) (clearing_ne_idle hn) rfl
  | resetRelease bypass cpb => exact .moves (execResetRelease_moves h)
  | loadReadDone id data => exact .moves (execLoadReadDone_moves h)
  | loadError id => exact .moves (execLoadError_moves h)
  | requestArrival r => exact .moves (execRequestArrival_moves h)
  | headEvent lane => exact .moves (execHeadEvent_moves h)
  | consumerValueWritten => exact .moves (execConsumerValueWritten_moves h)
  | orderExamination => exact .moves (execOrderExamination_moves h)
  | setWindow => exact .moves (takeCoded_moves (q := fun c => decide (c = 1)) (fun o _ hrun _ => orderSetWindow_moves o hrun) h)
  | release => exact .moves (takeCoded_moves (q := fun c => decide (c = 2)) (fun o _ _ _ => orderRelease_moves o) h)
  | openTransfer => exact .moves (takeCoded_moves (q := fun c => decide (c = 3)) (fun o _ _ _ => orderOpen_moves o) h)
  | closeTransfer => exact .moves (takeCoded_moves (q := fun c => decide (c = 4)) (fun o _ hrun _ => orderClose_moves o hrun) h)
  | retire => exact .moves (takeCoded_moves (q := fun c => decide (c = 5)) (fun o _ hrun ho => orderRetire_moves o hrun ho) h)
  | clearAll => exact .moves (takeCoded_moves (q := fun c => decide (c = 6)) (fun o _ hrun _ => orderClearAll_moves o hrun) h)
  | recheck => exact .moves (takeCoded_moves (q := fun c => decide (c = 7)) (fun o _ hrun _ => orderRecheck_moves o hrun) h)
  | stepSweep => exact .moves (takeCoded_moves (q := fun c => decide (c = 8)) (fun o _ _ _ => orderStep_moves o) h)
  | stopSweep => exact .moves (takeCoded_moves (q := fun c => decide (c = 9)) (fun o _ hrun _ => orderStopSweep_moves o hrun) h)
  | snapshot => exact .moves (takeCoded_moves (q := fun c => decide (c = 10)) (fun o _ _ _ => orderSnapshot_moves o) h)
  | setEngine => exact .moves (takeCoded_moves (q := fun c => decide (c = 11)) (fun o _ _ _ => orderSetEngine_moves o) h)
  | unknownOrder => exact .moves (takeCoded_moves (q := fun c => decide (11 < c.toNat)) (fun o _ _ _ => orderUnknown_moves o) h)
  | ladderComplete => exact .moves (execLadderComplete_moves h)
  | reconcileReadReturn id data => exact .moves (execReconcileReadReturn_moves h)
  | reconcileReadError id => exact .moves (execReconcileReadError_moves h)
  | detachedReadReturn id resp => exact .moves (execDetachedReadReturn_moves (resp := resp) h)
  | responseRelay id resp => exact .moves (execResponseRelay_moves h)
  | memoryIssue => exact .moves (execMemoryIssue_moves h)
  | orphanResponse id resp => exact .moves (execOrphanResponse_moves (resp := resp) h)
  | tick => exact .moves (execTick_moves h)
  | idleCountEnd ctx => exact .moves (execIdleCountEnd_moves h)
  | guardEnd ctx => exact .moves (execGuardEnd_moves h)
  | holdCountEnd lane => exact .moves (execHoldCountEnd_moves h)
  | settingsAdopt => exact .moves (execSettingsAdopt_moves h)
  | snapshotCountdownEnd => exact .moves (execSnapshotCountdownEnd_moves h)
  | statusBlockWriteDone id => exact .moves (execStatusBlockWriteDone_moves h)
  | recordWriteDone id => exact .moves (execRecordWriteDone_moves h)
  | engineWriteError id => exact .moves (execEngineWriteError_moves h)
  | visitBegin => exact .moves (execVisitBegin_moves h)
  | recheckReadDone id data => exact .moves (execRecheckReadDone_moves h)
  | recheckReadError id => exact .moves (execRecheckReadError_moves h)
  | microsecondStep => exact .moves (execMicrosecondStep_moves h)

/-- Every step is a chain of moves, the pin reset, or the last event of the load. -/
theorem step_does (h : step s = .next t) : StepDoes s t := by
  unfold step at h
  split at h
  · cases h
    exact .moves (SameCore.moves {})
  next c rest _ =>
    have hfetched : SameCore s { s with pending := rest } := {}
    cases exec_does h with
    | moves hm => exact .moves (hfetched.moves.trans hm)
    | reset hs he hr => exact .reset hs he hr
    | loaded x b hs hl hr => exact .loaded x b (hfetched.trans hs) hl hr

/-! ### The last event of the load (R180, steps 3 to 6) -/

theorem takeSettings_core : SameCore s (takeSettings s) := {}

/-- A window's load applies a valid definition, or does nothing; what it reports enters the list afterwards. -/
theorem loadWindow_moves (x : State × List Report) (w : WinId) (hs : x.1.engine.load ≠ .idle) :
    Moves true x.1 (loadWindow x w).1 := by
  unfold loadWindow
  dsimp only
  split
  · exact .refl
  next ht hv => exact applyDef_moves w _ (.inr hs) (by rw [← ht]; exact hv) (.inl rfl)
  · exact .refl
  · exact .refl

theorem loadWindow_engine (x : State × List Report) (w : WinId) : (loadWindow x w).1.engine = x.1.engine := by
  unfold loadWindow
  dsimp only
  split <;> simp [applyDef]

theorem loadWindows_moves (ws : List WinId) (x : State × List Report) (hs : x.1.engine.load ≠ .idle) :
    Moves true x.1 (ws.foldl loadWindow x).1 ∧ (ws.foldl loadWindow x).1.engine = x.1.engine := by
  induction ws generalizing x with
  | nil => exact ⟨.refl, rfl⟩
  | cons w ws ih =>
    have heng := loadWindow_engine x w
    obtain ⟨hmoves, hend⟩ := ih (loadWindow x w) (by rw [heng]; exact hs)
    exact ⟨(loadWindow_moves x w hs).trans hmoves, hend.trans heng⟩

/-- The load's end for any list of windows. -/
def finishLoadOver (ws : List WinId) (s : State) : State :=
  let x := ws.foldl loadWindow (takeSettings s, [])
  runEngine (build x.1 (.startup s.engine.cpb (activeWindows x.1) :: x.2))

theorem finishLoad_eq (s : State) : finishLoad s = finishLoadOver allWins s := by
  simp only [finishLoad, finishLoadOver]

theorem finishLoadOver_moves (ws : List WinId) (hl : s.engine.load ≠ .idle) :
    Moves true s (finishLoadOver ws s) := by
  obtain ⟨hmoves, heng⟩ := loadWindows_moves ws (takeSettings s, []) hl
  refine (((takeSettings_core.moves.trans hmoves).tail (.builds _ (.inl rfl) (.inl rfl))).tail (.runs ?_ rfl)).tail
    (.quiet {})
  rw [(build_frame _ _).1, heng]
  exact hl

theorem finishLoad_moves (hl : s.engine.load ≠ .idle) : Moves true s (finishLoad s) := by
  rw [finishLoad_eq]
  exact finishLoadOver_moves allWins hl

/-- A property that every move keeps, and that the state after pin reset has, is kept by every step. -/
theorem step_keeps {I : State → Prop} (hmove : ∀ {ld : Bool} {s t : State}, I s → Move ld s t → I t)
    (hreset : I State.reset) (hs : I s) (h : step s = .next t) : I t := by
  cases step_does h with
  | moves hm => exact hm.keep hmove hs
  | reset hc _ _ => exact hmove hreset (.quiet (ld := false) hc)
  | loaded x b hc hl _ =>
    have hload : x.engine.load ≠ .idle := by rw [hc.load]; exact hl
    exact Moves.keep hmove ((hc.moves.trans (finishLoad_moves hload)).trans (settle_moves b)) hs

end Sys2Proof.Machine
end

section
/-! What the moves keep: the shadow, the contexts and the binding map. -/

set_option Elab.async false

namespace Sys2Proof.Machine

open Relation

variable {ld : Bool} {s t : State}

/-! ### The shadow (R164) -/

theorem Move.shadow_eq_or (h : Move ld s t) :
    t.orders.shadow = s.orders.shadow ∨ (ShadowInv s → ShadowInv t) := by
  cases h with
  | quiet h => exact .inl h.shadow
  | cleared h => exact .inl h.shadow
  | copied m hwf ho => exact .inr fun hs => ⟨hwf hs.1, ho hs.2⟩
  | _ => exact .inl (by simp)

theorem Move.shadowInv (hs : ShadowInv s) (h : Move ld s t) : ShadowInv t := by
  rcases h.shadow_eq_or with h | h
  · rw [ShadowInv, h]
    exact hs
  · exact h hs

/-! ### The contexts -/

/-- What a move can make of the one context that it changes. -/
inductive CtxMove (x : Context) : Context → Prop
  | attached (hc : x.state = .collecting) : CtxMove x { x with reconCount := x.reconCount + 1 }
  | corrected (q : ReconRec) (old : List Byte) : CtxMove x (correctedContext x q old)
  | ended (f : FinalRec) (hf : f.state.isFinal = true) (hc : x.state = .priming ∨ x.state = .collecting) :
      CtxMove x { finalContext x f with extents := [] }
  | second (f : FinalRec) (hc : x.state = .verified) (hf : f.state = .tainted ∨ f.state = .corrupted) :
      CtxMove x { x with state := f.state, second := some f }
  | owes (hc : x.state.isFinal = true) : CtxMove x { x with owed := x.owed + 1 }
  | minor {y : Context} (h : MinorCtx x y) : CtxMove x y
  | guarded (n : Nat) (hc : x.state.isFinal = true) (ho : x.owed = 0) :
      CtxMove x { x with state := .guard, guardCount := some n }
  | freed (hp : x.state ≠ .priming) (hc : x.state ≠ .collecting) : CtxMove x Context.free
  | bound (b : Binding) (len : Option Nat) (objId : Option Word64) (hc : x.state = .free) :
      CtxMove x (boundContext b len objId)
  | collects (key n : Nat) (hc : x.state = .priming) : CtxMove x (collectingContext x key n)
  | inserted (es : List Extent) (hc : x.state = .collecting) : CtxMove x { x with extents := es }

/-- A move changes no context, or one, or CLEAR-ALL frees them all. -/
theorem Move.ctxs_cases (h : Move ld s t) :
    t.ctxs = s.ctxs ∨ (∃ c y, t.ctxs = s.ctxs.set c.val y c.isLt ∧ CtxMove (getCtx s c) y) ∨
      ∀ c, getCtx t c = Context.free := by
  cases h with
  | quiet h => exact .inl h.ctxs
  | cleared h => exact .inr (.inr h.ctxs)
  | attached l r c q hrun ha hc hq => exact .inr (.inl ⟨c, _, rfl, .attached hc⟩)
  | reconciled l c q old hs hrun => exact .inr (.inl ⟨c, _, rfl, .corrected q old⟩)
  | slotFailed l c q f hs hc hf =>
    exact .inr (.inl ⟨c, _, by simp [finalise, returnList, detachSlots, modCtx, setCtx, getCtx], .ended f hf (.inr hc)⟩)
  | finished c f b hf hc =>
    refine .inr (.inl ⟨c, _, by simp [finalise, returnList, detachSlots, modCtx, setCtx, getCtx], .ended f hf ?_⟩)
    rcases hc with hc | hc
    · exact .inr hc.1
    · exact hc.1
  | second c f hc hf => exact .inr (.inl ⟨c, _, rfl, .second f hc hf⟩)
  | owes c hc => exact .inr (.inl ⟨c, _, rfl, .owes hc⟩)
  | ctx c f h => exact .inr (.inl ⟨c, _, rfl, .minor h⟩)
  | guarded c n hc ho => exact .inr (.inl ⟨c, _, rfl, .guarded n hc ho⟩)
  | freed c b hb hp hc => exact .inr (.inl ⟨c, _, rfl, .freed hp hc⟩)
  | unbound c hb hp hc => exact .inr (.inl ⟨c, _, rfl, .freed hp hc⟩)
  | bound c w bay key len objId hc hw => exact .inr (.inl ⟨c, _, rfl, .bound _ _ _ hc⟩)
  | collects c key n hb hc => exact .inr (.inl ⟨c, _, rfl, .collects key n hc⟩)
  | inserted c e f hc hef hp => exact .inr (.inl ⟨c, _, rfl, .inserted _ hc⟩)
  | _ => exact .inl (by simp)

theorem getCtx_of_set {c : CtxId} {y : Context} (h : t.ctxs = s.ctxs.set c.val y c.isLt) (k : CtxId) :
    getCtx t k = if c = k then y else getCtx s k := by
  simp [getCtx, h, Vector.getElem_set, Fin.ext_iff]

/-- A property of single contexts that the changes of a context keep, and a FREE context has, is kept by a move. -/
theorem Move.contexts {Q : Context → Prop} (hfree : Q Context.free) (hstep : ∀ x y, Q x → CtxMove x y → Q y)
    (hs : ∀ c, Q (getCtx s c)) (h : Move ld s t) (c : CtxId) : Q (getCtx t c) := by
  rcases h.ctxs_cases with h | ⟨k, y, h, hy⟩ | h
  · rw [getCtx_congr h]; exact hs c
  · rw [getCtx_of_set h]
    split
    · exact hstep _ _ (hs k) hy
    · exact hs c
  · rw [h]; exact hfree

/-! ### The accumulators (R1, R40, R55) -/

/-- What AccumulatorInv says of one context. -/
def AccumulatorCtx (x : Context) : Prop :=
  x.acc < P ∧ (x.state = .free → x = Context.free) ∧ (x.state = .guard → x.owed = 0)

theorem isFinal_spec {f : CtxState} (h : f.isFinal = true) :
    f ≠ .free ∧ f ≠ .priming ∧ f ≠ .collecting ∧ f ≠ .guard := by
  cases f <;> simp_all [CtxState.isFinal]

theorem correctedContext_frame (x : Context) (q : ReconRec) (old : List Byte) :
    (correctedContext x q old).state = x.state ∧ (correctedContext x q old).binding = x.binding ∧
    (correctedContext x q old).first = x.first ∧ (correctedContext x q old).owed = x.owed ∧
    (correctedContext x q old).extents = x.extents ∧ (x.acc < P → (correctedContext x q old).acc < P) ∧
    (x.state ≠ .collecting → correctedContext x q old = x) := by
  unfold correctedContext
  split
  next h => exact ⟨rfl, rfl, rfl, rfl, rfl, correctPieces_lt _ _ _ _ _ _, fun hn => absurd h hn⟩
  next => exact ⟨rfl, rfl, rfl, rfl, rfl, id, fun _ => rfl⟩

theorem CtxMove.accumulator {x y : Context} (hx : AccumulatorCtx x) (h : CtxMove x y) : AccumulatorCtx y := by
  obtain ⟨hacc, hfree, hguard⟩ := hx
  cases h with
  | attached hc => exact ⟨hacc, fun e => absurd (e.symm.trans hc) (by simp), hguard⟩
  | corrected q old =>
    obtain ⟨hstate, -, -, howed, -, hlt, hsame⟩ := correctedContext_frame x q old
    refine ⟨hlt hacc, fun e => ?_, fun e => by rw [howed]; exact hguard (hstate.symm.trans e)⟩
    have hxfree : x.state = .free := hstate.symm.trans e
    rw [hsame (by rw [hxfree]; simp)]
    exact hfree hxfree
  | ended f hf hc => exact ⟨hacc, fun e => absurd e (isFinal_spec hf).1, fun e => absurd e (isFinal_spec hf).2.2.2⟩
  | second f hc hf =>
    have hfin : f.state.isFinal = true := by rcases hf with h | h <;> rw [h] <;> rfl
    exact ⟨hacc, fun e => absurd e (isFinal_spec hfin).1, fun e => absurd e (isFinal_spec hfin).2.2.2⟩
  | owes hc => exact ⟨hacc, fun e => absurd e (isFinal_spec hc).1, fun e => absurd e (isFinal_spec hc).2.2.2⟩
  | minor h =>
    refine ⟨h.acc hacc, fun e => h.free (hfree (h.state.symm.trans e)), fun e => ?_⟩
    have := hguard (h.state.symm.trans e)
    have := h.owed
    omega
  | guarded n hc ho => exact ⟨hacc, nofun, fun _ => ho⟩
  | freed hp hc => exact ⟨P_pos, fun _ => rfl, nofun⟩
  | bound b len objId hc => exact ⟨P_pos, nofun, nofun⟩
  | collects key n hc => exact ⟨hacc, nofun, nofun⟩
  | inserted es hc => exact ⟨hacc, fun e => absurd (e.symm.trans hc) (by simp), hguard⟩

theorem Move.accumulatorInv (hs : AccumulatorInv s) (h : Move ld s t) : AccumulatorInv t :=
  h.contexts (Q := AccumulatorCtx) ⟨P_pos, fun _ => rfl, nofun⟩ (fun _ _ => CtxMove.accumulator) hs

end Sys2Proof.Machine
end

section
/-! What the moves keep: the bindings and the windows' bound counts. -/

set_option Elab.async false

namespace Sys2Proof.Machine

open Relation

variable {ld : Bool} {s t : State}

/-! ### What the moves do to the bindings -/

/-- A window's entry keeps its bound count, and drains only where it drained or has a context bound. -/
def KeepsBound (x y : Window) : Prop := y.bound = x.bound ∧ (y.draining = true → x.draining = true ∨ x.bound ≠ 0)

/-- The bindings and the bound counts are as before. -/
structure SameBindings (s t : State) : Prop where
  ctxs : ∀ k, (getCtx t k).binding = (getCtx s k).binding
  wins : ∀ w, KeepsBound (getWin s w) (getWin t w)

theorem KeepsBound.rfl {x : Window} : KeepsBound x x := ⟨Eq.refl _, .inl⟩

theorem MinorWin.keepsBound {x y : Window} (h : MinorWin x y) : KeepsBound x y :=
  ⟨h.bound, fun hd => .inl (by simpa [Window.draining, h.staged] using hd)⟩

theorem SameBindings.of_eq (hc : t.ctxs = s.ctxs) (hw : t.windows = s.windows) : SameBindings s t :=
  { ctxs := fun k => by rw [getCtx_congr hc], wins := fun w => by rw [getWin_congr hw]; exact .rfl }

theorem SameBindings.of_ctx {c : CtxId} {y : Context} (hc : t.ctxs = s.ctxs.set c.val y c.isLt)
    (hb : y.binding = (getCtx s c).binding) (hw : t.windows = s.windows) : SameBindings s t :=
  { ctxs := fun k => by
      rw [getCtx_of_set hc]
      split
      next h => rw [hb, h]
      next => rfl
    wins := fun w => by rw [getWin_congr hw]; exact .rfl }

theorem SameBindings.of_win {w : WinId} {f : Window → Window} (h : KeepsBound (getWin s w) (f (getWin s w))) :
    SameBindings s (modWin s w f) :=
  { ctxs := fun k => by rw [getCtx_congr (modWin_ctxs s w f)]
    wins := fun v => by
      by_cases hv : w = v
      · subst hv
        rwa [getWin_modWin_self]
      · rw [getWin_modWin_of_ne _ _ _ _ hv]
        exact .rfl }

/-- A move binds a context, frees one, clears them all, or leaves the bindings. -/
inductive BindStep (s : State) : State → Prop
  | same {t : State} (h : SameBindings s t) : BindStep s t
  | bound (c : CtxId) (w : WinId) (bay key : Nat) (len : Option Nat) (objId : Option Word64)
      (hc : (getCtx s c).state = .free) (hw : lookup s w bay = none) : BindStep s (bindContext s c w bay key len objId)
  | freed (c : CtxId) (b : Binding) (hb : (getCtx s c).binding = some b) : BindStep s (freeBound s c b.win)
  | cleared {t : State} (h : ClearedFrom s t) : BindStep s t

theorem finalise_ctxs (s : State) (c : CtxId) (f : FinalRec) :
    (finalise s c f).ctxs = s.ctxs.set c.val { finalContext (getCtx s c) f with extents := [] } c.isLt := by
  simp [finalise, returnList, detachSlots, modCtx, setCtx, getCtx]

theorem Move.bindStep (h : Move ld s t) : BindStep s t := by
  cases h with
  | quiet h => exact .same (.of_eq h.ctxs h.windows)
  | cleared h => exact .cleared h
  | attached l r c q hrun ha hc hq => exact .same (.of_ctx (c := c) rfl rfl rfl)
  | reconciled l c q old hs hrun => exact .same (.of_ctx (c := c) rfl (correctedContext_frame _ q old).2.1 rfl)
  | slotFailed l c q f hs hc hf =>
    exact .same (.of_ctx (c := c) (finalise_ctxs _ c f) rfl (by simp))
  | finished c f b hf hc => exact .same (.of_ctx (c := c) (finalise_ctxs _ c f) rfl (by simp))
  | second c f hc hf => exact .same (.of_ctx (c := c) rfl rfl rfl)
  | owes c hc => exact .same (.of_ctx (c := c) rfl rfl rfl)
  | ctx c f h => exact .same (.of_ctx (c := c) rfl h.binding rfl)
  | guarded c n hc ho => exact .same (.of_ctx (c := c) rfl rfl rfl)
  | freed c b hb hp hc => exact .freed c b hb
  | unbound c hb hp hc => exact .same (.of_ctx (c := c) rfl hb.symm rfl)
  | bound c w bay key len objId hc hw => exact .bound c w bay key len objId hc hw
  | collects c key n hb hc => exact .same (.of_ctx (c := c) rfl rfl rfl)
  | inserted c e f hc hef hp => exact .same (.of_ctx (c := c) rfl rfl rfl)
  | win w f h => exact .same (.of_win h.keepsBound)
  | staged w d hs hb hv => exact .same (.of_win ⟨rfl, fun _ => .inr hb⟩)
  | applied w d hs hv => exact .same (.of_win ⟨rfl, nofun⟩)
  | _ => exact .same (.of_eq (by simp) (by simp))

/-! ### The binding map (R41) -/

theorem boundTo_iff (w : WinId) (bay : Nat) (x : Context) :
    boundTo w bay x = true ↔ ∃ b, x.binding = some b ∧ b.win = w ∧ b.bay = bay := by
  unfold boundTo
  split <;> simp_all

theorem boundTo_congr {x y : Context} (h : y.binding = x.binding) (w : WinId) (bay : Nat) :
    boundTo w bay y = boundTo w bay x := by
  rw [boundTo, boundTo, h]

theorem not_boundTo_of_lookup {w : WinId} {bay : Nat} (h : lookup s w bay = none) (c : CtxId) :
    ¬ boundTo w bay (getCtx s c) = true :=
  List.find?_eq_none.mp h c (List.mem_finRange c)

theorem getCtx_bindContext (s : State) (c : CtxId) (w : WinId) (bay key : Nat) (len : Option Nat)
    (objId : Option Word64) (k : CtxId) :
    getCtx (bindContext s c w bay key len objId) k =
      if c = k then boundContext { number := s.serial + 1, win := w, bay := bay, key := key } len objId
      else getCtx s k :=
  getCtx_of_set rfl k

theorem getCtx_freeBound (s : State) (c : CtxId) (w : WinId) (k : CtxId) :
    getCtx (freeBound s c w) k = if c = k then Context.free else getCtx s k :=
  getCtx_of_set (by rfl) k

theorem Move.bindingInv (hs : BindingInv s) (h : Move ld s t) : BindingInv t := by
  intro c k v bay hc hk
  cases h.bindStep with
  | same h =>
    rw [boundTo_congr (h.ctxs _)] at hc hk
    exact hs c k v bay hc hk
  | bound x w bay' key len objId hx hw =>
    have hnew : ∀ j, boundTo v bay (getCtx (bindContext s x w bay' key len objId) j) = true →
        (x = j ∧ v = w ∧ bay = bay') ∨ boundTo v bay (getCtx s j) = true := by
      intro j hj
      rw [getCtx_bindContext] at hj
      split at hj
      next e =>
        obtain ⟨b, hb, hwin, hbay⟩ := (boundTo_iff _ _ _).mp hj
        cases hb
        exact .inl ⟨e, hwin.symm, hbay.symm⟩
      next => exact .inr hj
    rcases hnew c hc with ⟨rfl, rfl, rfl⟩ | hc'
    · rcases hnew k hk with ⟨rfl, -, -⟩ | hk'
      · rfl
      · exact absurd hk' (not_boundTo_of_lookup hw k)
    · rcases hnew k hk with ⟨-, rfl, rfl⟩ | hk'
      · exact absurd hc' (not_boundTo_of_lookup hw c)
      · exact hs c k v bay hc' hk'
  | freed x b hb =>
    have hold : ∀ j, boundTo v bay (getCtx (freeBound s x b.win) j) = true → boundTo v bay (getCtx s j) = true := by
      intro j hj
      rw [getCtx_freeBound] at hj
      split at hj
      · cases hj
      · exact hj
    exact hs c k v bay (hold c hc) (hold k hk)
  | cleared h =>
    rw [h.ctxs c] at hc
    cases hc

theorem getWin_modWin (s : State) (w v : WinId) (f : Window → Window) :
    getWin (modWin s w f) v = if w = v then f (getWin s w) else getWin s v := by
  split
  next h => rw [← h, getWin_modWin_self]
  next h => exact getWin_modWin_of_ne _ _ _ _ h

/-! ### Counts over the contexts -/

/-- A sum of which one term changes. -/
theorem sum_change_one {n : Nat} {f g : Fin n → Nat} (c : Fin n) (h : ∀ k, k ≠ c → g k = f k) :
    ∑ k, g k + f c = ∑ k, f k + g c := by
  have hrest : ∑ k ∈ Finset.univ.erase c, g k = ∑ k ∈ Finset.univ.erase c, f k :=
    Finset.sum_congr rfl fun k hk => h k (Finset.ne_of_mem_erase hk)
  rw [← Finset.add_sum_erase Finset.univ g (Finset.mem_univ c), ← Finset.add_sum_erase Finset.univ f (Finset.mem_univ c),
    hrest]
  omega

theorem sum_map_toList {α : Type} {n : Nat} (v : Vector α n) (f : α → Nat) :
    (v.toList.map f).sum = ∑ k : Fin n, f v[k] := by
  rw [← List.sum_ofFn]
  congr 1
  apply List.ext_getElem <;> simp

theorem length_filter_toList {α : Type} {n : Nat} (v : Vector α n) (p : α → Bool) :
    (v.toList.filter p).length = ∑ k : Fin n, (p v[k]).toNat := by
  rw [← sum_map_toList v fun x => (p x).toNat]
  induction v.toList with
  | nil => rfl
  | cons x xs ih => cases h : p x <;> simp [h, ih, Nat.add_comm]

/-- A context is bound to a bay of the window. -/
def boundIn (w : WinId) (x : Context) : Bool := x.binding.any fun b => decide (b.win = w)

theorem boundContexts_eq (s : State) (w : WinId) : boundContexts s w = ∑ c : CtxId, (boundIn w (getCtx s c)).toNat :=
  length_filter_toList s.ctxs _

theorem boundIn_congr {x y : Context} (h : y.binding = x.binding) (w : WinId) : boundIn w y = boundIn w x := by
  rw [boundIn, boundIn, h]

/-- The number of contexts bound to a window after one context has changed. -/
theorem boundContexts_change {c : CtxId} (h : ∀ k, c ≠ k → getCtx t k = getCtx s k) (w : WinId) :
    boundContexts t w + (boundIn w (getCtx s c)).toNat = boundContexts s w + (boundIn w (getCtx t c)).toNat := by
  rw [boundContexts_eq, boundContexts_eq]
  exact sum_change_one (f := fun k => (boundIn w (getCtx s k)).toNat) (g := fun k => (boundIn w (getCtx t k)).toNat) c
    fun k hk => by rw [h k (Ne.symm hk)]

/-! ### The bound counts (R30, R33, R40, R62) -/

/-- What BoundInv says of one context. -/
def BoundCtx (x : Context) : Prop :=
  (x.state = .free ↔ x.binding = none) ∧ (x.state.isFinal = true → x.first.isSome = true) ∧
    (x.owed ≠ 0 → x.binding.isSome = true ∧ x.first.isSome = true)

theorem CtxMove.bound_spec {x y : Context} (hx : BoundCtx x) (h : CtxMove x y) : BoundCtx y := by
  obtain ⟨hfree, hfirst, howed⟩ := hx
  have hbound : x.state ≠ .free → x.binding.isSome = true := fun h => by
    rw [Option.isSome_iff_ne_none]
    exact fun e => h (hfree.mpr e)
  cases h with
  | attached hc => exact ⟨hfree, hfirst, howed⟩
  | corrected q old =>
    obtain ⟨hstate, hbind, hfst, howd, -⟩ := correctedContext_frame x q old
    rw [BoundCtx, hstate, hbind, hfst, howd]
    exact ⟨hfree, hfirst, howed⟩
  | ended f hf hc =>
    have hb := hbound (by rcases hc with h | h <;> rw [h] <;> simp)
    refine ⟨⟨fun e => absurd e (isFinal_spec hf).1, fun e => ?_⟩, fun _ => rfl, fun _ => ⟨hb, rfl⟩⟩
    have : x.binding = none := e
    simp [this] at hb
  | second f hc hf =>
    have hb := hbound (by rw [hc]; simp)
    have hfin : f.state.isFinal = true := by rcases hf with h | h <;> rw [h] <;> rfl
    have hfs := hfirst (by rw [hc]; rfl)
    refine ⟨⟨fun e => absurd e (isFinal_spec hfin).1, fun e => ?_⟩, fun _ => hfs, howed⟩
    have : x.binding = none := e
    simp [this] at hb
  | owes hc => exact ⟨hfree, hfirst, fun _ => ⟨hbound (isFinal_spec hc).1, hfirst hc⟩⟩
  | minor h =>
    rw [BoundCtx, h.state, h.binding, h.first]
    exact ⟨hfree, hfirst, fun hn => howed (by have := h.owed; omega)⟩
  | guarded n hc ho =>
    have hb := hbound (isFinal_spec hc).1
    refine ⟨⟨nofun, fun e => ?_⟩, nofun, howed⟩
    have : x.binding = none := e
    simp [this] at hb
  | freed hp hc => exact ⟨by simp [Context.free], nofun, fun h => absurd rfl h⟩
  | bound b len objId hc => exact ⟨by simp [boundContext], nofun, fun h => absurd rfl h⟩
  | collects key n hc =>
    have hb := hbound (by rw [hc]; simp)
    refine ⟨⟨nofun, fun e => ?_⟩, nofun, howed⟩
    have : x.binding = none := e
    simp [this] at hb
  | inserted es hc => exact ⟨hfree, hfirst, howed⟩

/-- What BoundInv says of one window. -/
def BoundWin (s : State) (w : WinId) : Prop :=
  (getWin s w).bound = boundContexts s w ∧ ((getWin s w).draining = true → 0 < (getWin s w).bound)

theorem SameBindings.boundWin (h : SameBindings s t) {w : WinId} (hs : BoundWin s w) : BoundWin t w := by
  obtain ⟨hbound, hdrain⟩ := h.wins w
  have hcount : boundContexts t w = boundContexts s w := by
    rw [boundContexts_eq, boundContexts_eq]
    exact Finset.sum_congr rfl fun k _ => by rw [boundIn_congr (h.ctxs k)]
  refine ⟨by rw [hbound, hcount, hs.1], fun hd => ?_⟩
  rw [hbound]
  rcases hdrain hd with hd | hne
  · exact hs.2 hd
  · omega

theorem boundWin_bindContext {c : CtxId} {w : WinId} {bay key : Nat} {len : Option Nat} {objId : Option Word64}
    (hc : (getCtx s c).binding = none) {v : WinId} (hs : BoundWin s v) :
    BoundWin (bindContext s c w bay key len objId) v := by
  have hcount := boundContexts_change (s := s) (t := bindContext s c w bay key len objId) (c := c)
    (fun k hk => by rw [getCtx_bindContext, if_neg hk]) v
  rw [getCtx_bindContext, if_pos rfl] at hcount
  obtain ⟨hbound, hdrain⟩ := hs
  simp only [boundIn, hc, Option.any_none, Bool.toNat_false, boundContext, Option.any_some] at hcount
  have hwin : getWin (bindContext s c w bay key len objId) v = if w = v then
      { getWin s w with bound := (getWin s w).bound + 1, counters :=
        { (getWin s w).counters with opened := raise (getWin s w).counters.opened 1 } } else getWin s v := by
    rw [bindContext, getWin_modWin]
    rfl
  by_cases hv : w = v
  · subst hv
    rw [if_pos rfl] at hwin
    refine ⟨?_, fun _ => ?_⟩
    · rw [hwin]
      simp only [decide_true, Bool.toNat_true, Nat.add_zero] at hcount
      rw [hcount, ← hbound]
    · rw [hwin]
      exact Nat.succ_pos _
  · rw [if_neg hv] at hwin
    simp [hv] at hcount
    exact ⟨by rw [hwin, hbound, hcount], fun hd => by rw [hwin] at hd ⊢; exact hdrain hd⟩

theorem takeStaged_draining {x : Window} (h : (takeStaged x).draining = true) : 0 < x.bound := by
  by_contra hz
  have hnone := (takeStaged_spec x).2.1 (Nat.eq_zero_of_not_pos hz)
  simp [Window.draining, hnone] at h

theorem getWin_freeBound (s : State) (c : CtxId) (w v : WinId) :
    getWin (freeBound s c w) v =
      if w = v then takeStaged { getWin s w with bound := (getWin s w).bound - 1 } else getWin s v := by
  rw [freeBound, getWin_modWin]
  rfl

theorem boundWin_freeBound {c : CtxId} {b : Binding} (hb : (getCtx s c).binding = some b) {v : WinId}
    (hs : BoundWin s v) : BoundWin (freeBound s c b.win) v := by
  have hcount := boundContexts_change (s := s) (t := freeBound s c b.win) (c := c)
    (fun k hk => by rw [getCtx_freeBound, if_neg hk]) v
  rw [getCtx_freeBound, if_pos rfl] at hcount
  obtain ⟨hbound, hdrain⟩ := hs
  simp only [boundIn, hb, Option.any_some, Context.free, Option.any_none, Bool.toNat_false] at hcount
  rw [BoundWin, getWin_freeBound]
  by_cases hv : b.win = v
  · subst hv
    simp only [decide_true, Bool.toNat_true] at hcount
    rw [if_pos rfl, (takeStaged_spec _).1]
    exact ⟨by simp only; omega, takeStaged_draining⟩
  · simp only [hv, decide_false, Bool.toNat_false] at hcount
    rw [if_neg hv]
    exact ⟨by omega, hdrain⟩

theorem Move.boundInv (hs : BoundInv s) (h : Move ld s t) : BoundInv t := by
  obtain ⟨hctx, hwin⟩ := hs
  refine ⟨h.contexts (Q := BoundCtx) ⟨by simp [Context.free], nofun, fun h => absurd rfl h⟩
    (fun _ _ => CtxMove.bound_spec) hctx, fun w => ?_⟩
  cases h.bindStep with
  | same h => exact h.boundWin (hwin w)
  | bound c v bay key len objId hc hl => exact boundWin_bindContext ((hctx c).1.mp hc) (hwin w)
  | freed c b hb => exact boundWin_freeBound hb (hwin w)
  | cleared h =>
    obtain ⟨hzero, hnone⟩ := h.bound w
    refine ⟨?_, fun hd => by simp [Window.draining, hnone] at hd⟩
    rw [hzero, boundContexts_eq]
    exact (Finset.sum_eq_zero fun k _ => by rw [h.ctxs k]; rfl).symm

end Sys2Proof.Machine
end

section
/-! What the moves keep: the build queue and the windows' regions. -/

set_option Elab.async false

namespace Sys2Proof.Machine

open Relation

variable {ld : Bool} {s t : State}

/-! ### The build queue (R6 to R8) -/

/-- Every context that is PRIMING stays so. -/
def StaysPriming (s t : State) : Prop := ∀ k, (getCtx s k).state = .priming → (getCtx t k).state = .priming

theorem StaysPriming.of_eq (h : t.ctxs = s.ctxs) : StaysPriming s t := fun k hk => by rw [getCtx_congr h, hk]

theorem StaysPriming.of_ctx {c : CtxId} {y : Context} (h : t.ctxs = s.ctxs.set c.val y c.isLt)
    (hy : (getCtx s c).state = .priming → y.state = .priming) : StaysPriming s t := fun k hk => by
  rw [getCtx_of_set h]
  split
  next e => subst e; exact hy hk
  next => exact hk

/-- What a move does to the builder, and to the contexts that it builds. -/
inductive BuildStep (s : State) : State → Prop
  | same {t : State} (hb : t.builder = s.builder) (hp : StaysPriming s t) : BuildStep s t
  | abandoned {t : State} (c : CtxId) (hb : t.builder = abandonBuild s.builder c)
      (hp : ∀ k, k ≠ c → getCtx t k = getCtx s k) : BuildStep s t
  | requested {t : State} (c : CtxId) (hb : t.builder = requestBuild s.builder c) (hc : (getCtx s c).state = .free)
      (hn : (getCtx t c).state = .priming) (hp : StaysPriming s t) : BuildStep s t
  | next {t : State} (hb : t.builder = nextBuild s.builder)
      (hp : ∀ k, s.builder.building ≠ some k → getCtx t k = getCtx s k) : BuildStep s t
  | idle {t : State} (hb : t.builder = { building := none, queue := [] }) : BuildStep s t

theorem Move.buildStep (h : Move ld s t) : BuildStep s t := by
  cases h with
  | quiet h => exact .same h.builder (.of_eq h.ctxs)
  | cleared h => exact .idle h.builder
  | halts => exact .idle rfl
  | attached l r c q hrun ha hc hq => exact .same rfl (.of_ctx (c := c) rfl id)
  | reconciled l c q old hs hrun =>
    exact .same rfl (.of_ctx (c := c) rfl fun h => (correctedContext_frame _ q old).1.trans h)
  | slotFailed l c q f hs hc hf =>
    refine .same (by simp) (.of_ctx (c := c) (finalise_ctxs _ c f) fun h => ?_)
    exact absurd (h.symm.trans hc) (by simp)
  | finished c f b hf hc =>
    rcases hc with ⟨hc, rfl⟩ | ⟨hc, rfl⟩
    · exact .same (by simp) (.of_ctx (c := c) (finalise_ctxs _ c f) fun h =>
        absurd (h.symm.trans hc) (by simp))
    · exact .abandoned c (by simp) fun k hk => getCtx_finalise_of_ne _ f (Ne.symm hk)
  | second c f hc hf => exact .same rfl (.of_ctx (c := c) rfl fun h => absurd (h.symm.trans hc) (by simp))
  | owes c hc => exact .same rfl (.of_ctx (c := c) rfl id)
  | ctx c f h => exact .same rfl (.of_ctx (c := c) rfl fun e => h.state.trans e)
  | guarded c n hc ho => exact .same rfl (.of_ctx (c := c) rfl fun e => absurd e (isFinal_spec hc).2.1)
  | freed c b hb hp hc => exact .same rfl (.of_ctx (c := c) rfl fun e => absurd e hp)
  | unbound c hb hp hc => exact .same rfl (.of_ctx (c := c) rfl fun e => absurd e hp)
  | bound c w bay key len objId hc hw =>
    refine .requested c rfl hc ?_ (.of_ctx (c := c) rfl fun _ => rfl)
    rw [getCtx_bindContext, if_pos rfl]
    rfl
  | collects c key n hb hc =>
    refine .next rfl fun k hk => getCtx_modCtx_of_ne _ _ _ _ fun e => hk ?_
    rw [hb, e]
  | built => exact .next rfl fun _ _ => rfl
  | inserted c e f hc hef hp => exact .same rfl (.of_ctx (c := c) rfl id)
  | _ => exact .same (by simp) (.of_eq (by simp))

/-- The contexts that the builder holds, the one being built first. -/
def buildList (b : Builder) : List CtxId := b.building.toList ++ b.queue

theorem buildList_requestBuild {b : Builder} (h : b.building = none → b.queue = []) (c : CtxId) :
    buildList (requestBuild b c) = buildList b ++ [c] := by
  unfold requestBuild
  split
  next hb => simp [buildList, hb, h hb]
  next k hb => simp [buildList, hb]

theorem buildList_nextBuild (b : Builder) : buildList (nextBuild b) = b.queue := by
  unfold nextBuild
  split
  next hq => simp [buildList, hq]
  next c rest hq => simp [buildList, hq]

theorem nextBuild_idle {b : Builder} (h : (nextBuild b).building = none) : (nextBuild b).queue = [] := by
  unfold nextBuild at h ⊢
  split
  · rfl
  next hq => simp [hq] at h

theorem abandonBuild_spec {b : Builder} (c : CtxId) (hn : (buildList b).Nodup) (hi : b.building = none → b.queue = []) :
    (buildList (abandonBuild b c)).Nodup ∧ (∀ k ∈ buildList (abandonBuild b c), k ∈ buildList b ∧ k ≠ c) ∧
    ((abandonBuild b c).building = none → (abandonBuild b c).queue = []) := by
  unfold abandonBuild
  split
  next hb =>
    rw [buildList_nextBuild]
    simp only [buildList, hb, Option.toList_some, List.singleton_append, List.nodup_cons] at hn
    refine ⟨hn.2, fun k hk => ⟨by simp [buildList, hk], ?_⟩, nextBuild_idle⟩
    rintro rfl
    exact hn.1 hk
  next hb =>
    refine ⟨hn.sublist (List.Sublist.append_left List.filter_sublist _), fun k hk => ?_, fun h => by simp [hi h]⟩
    simp only [buildList, List.mem_append, Option.mem_toList, List.mem_filter, decide_eq_true_eq] at hk ⊢
    rcases hk with hk | hk
    · exact ⟨.inl hk, fun e => hb (by rw [← e]; exact hk)⟩
    · exact ⟨.inr hk.1, hk.2⟩

theorem Move.builderInv (hs : BuilderInv s) (h : Move ld s t) : BuilderInv t := by
  obtain ⟨hn, hp, hi⟩ := hs
  cases h.buildStep with
  | same hb hk =>
    rw [BuilderInv, hb]
    exact ⟨hn, fun c hc => hk c (hp c hc), hi⟩
  | abandoned c hb hk =>
    obtain ⟨hnodup, hmem, hidle⟩ := abandonBuild_spec c hn hi
    rw [BuilderInv, hb]
    refine ⟨hnodup, fun k hin => ?_, hidle⟩
    obtain ⟨hin, hne⟩ := hmem k hin
    rw [hk k hne]
    exact hp k hin
  | requested c hb hc hnew hk =>
    have hlist : t.builder.building.toList ++ t.builder.queue = s.builder.building.toList ++ s.builder.queue ++ [c] := by
      rw [hb]
      exact buildList_requestBuild hi c
    have hnot : c ∉ s.builder.building.toList ++ s.builder.queue := fun hin =>
      absurd ((hp c hin).symm.trans hc) (by simp)
    rw [BuilderInv, hlist]
    refine ⟨?_, fun k hin => ?_, fun h => ?_⟩
    · rw [List.nodup_append]
      refine ⟨hn, List.nodup_singleton c, fun a ha b hb' => ?_⟩
      rw [List.mem_singleton.mp hb']
      rintro rfl
      exact hnot ha
    · rcases List.mem_append.mp hin with hin | hin
      · exact hk k (hp k hin)
      · rw [List.mem_singleton.mp hin]
        exact hnew
    · rw [hb] at h
      unfold requestBuild at h
      split at h
      · cases h
      next hsome => exact absurd (h.symm.trans hsome) (by simp)
  | next hb hk =>
    rw [BuilderInv, hb]
    have hlist := buildList_nextBuild s.builder
    rw [buildList] at hlist
    rw [hlist]
    refine ⟨(List.nodup_append.mp hn).2.1, fun k hin => ?_, nextBuild_idle⟩
    rw [hk k fun e => ?_]
    · exact hp k (List.mem_append_right _ hin)
    · rw [e] at hn
      exact (List.nodup_cons.mp hn).1 hin
  | idle hb =>
    rw [BuilderInv, hb]
    exact ⟨List.nodup_nil, by simp, fun _ => rfl⟩

/-! ### The regions (R22, R32) -/

/-- What RegionInv says of a window but for the other windows. -/
def RegionWin (s : State) (x : Window) : Prop :=
  (x.state = .off ↔ x.defn = none) ∧
    ∀ d ∈ describedRegions x, rangeOk d = true ∧
      rangesMeet d.base.toNat d.regionEnd (pageBase s) (pageBase s + 16384) = false

/-- Two windows' entries describe regions that do not meet. -/
def ApartWin (x y : Window) : Prop :=
  ∀ d ∈ describedRegions x, ∀ e ∈ describedRegions y, rangesMeet d.base.toNat d.regionEnd e.base.toNat e.regionEnd = false

theorem rangesMeet_comm (a b c d : Nat) : rangesMeet a b c d = rangesMeet c d a b := by
  simp only [rangesMeet, Nat.max_comm, Nat.min_comm]

theorem ApartWin.symm {x y : Window} (h : ApartWin x y) : ApartWin y x := fun d hd e he => by
  rw [rangesMeet_comm]
  exact h e he d hd

/-- No window is described in RESET. -/
def DescribesNothingInReset (s : State) : Prop :=
  ∀ w, describedRegions (getWin s w) ≠ [] → s.engine.state ≠ .reset

theorem regionInv_iff (s : State) :
    RegionInv s ↔ (∀ w, RegionWin s (getWin s w)) ∧ (∀ w v, v ≠ w → ApartWin (getWin s w) (getWin s v)) ∧
      DescribesNothingInReset s ∧ LoadOnlyWhileLoading s := by
  constructor
  · rintro ⟨hw, hl⟩
    refine ⟨fun w => ⟨(hw w).1, fun d hd => ⟨((hw w).2 d hd).1, ((hw w).2 d hd).2.1⟩⟩,
      fun w v hv d hd => ((hw w).2 d hd).2.2.2 v hv, fun w hne => ?_, hl⟩
    obtain ⟨d, hd⟩ := List.exists_mem_of_ne_nil _ hne
    exact ((hw w).2 d hd).2.2.1
  · rintro ⟨hw, hv, hr, hl⟩
    exact ⟨fun w => ⟨(hw w).1, fun d hd => ⟨((hw w).2 d hd).1, ((hw w).2 d hd).2, hr w (List.ne_nil_of_mem hd),
      fun v hne => hv w v hne d hd⟩⟩, hl⟩

/-- An entry describes no region that another does not, and keeps that an OFF window has no definition. -/
def Narrows (x y : Window) : Prop :=
  ((x.state = .off ↔ x.defn = none) → (y.state = .off ↔ y.defn = none)) ∧ describedRegions y ⊆ describedRegions x

theorem Narrows.rfl {x : Window} : Narrows x x := ⟨id, List.Subset.refl _⟩

theorem Narrows.region {x y : Window} (h : Narrows x y) (hx : RegionWin s x) : RegionWin s y :=
  ⟨h.1 hx.1, fun d hd => hx.2 d (h.2 hd)⟩

theorem Narrows.apart {x y z u : Window} (h : Narrows x y) (k : Narrows z u) (hx : ApartWin x z) : ApartWin y u :=
  fun d hd e he => hx d (h.2 hd) e (k.2 he)

theorem region_none_iff (x : Window) : x.region = none ↔ x.state = .off ∨ x.defn = none := by
  unfold Window.region
  split <;> simp_all

theorem MinorWin.narrows {x y : Window} (h : MinorWin x y) : Narrows x y := by
  have hregion : y.region = x.region := by
    by_cases hx : x.state = .off
    · rw [(region_none_iff x).mpr (.inl hx), (region_none_iff y).mpr (.inl (h.off.mpr hx))]
    · have hy : y.state ≠ .off := fun e => hx (h.off.mp e)
      have hdefn : ∀ z : Window, z.state ≠ .off → z.region = z.defn := fun z hz => by
        unfold Window.region
        split
        next e => exact absurd e hz
        · rfl
        · rfl
      rw [hdefn x hx, hdefn y hy, h.defn]
  refine ⟨fun e => by rw [h.off, h.defn]; exact e, ?_⟩
  rw [describedRegions, describedRegions, hregion, h.staged]
  exact List.Subset.refl _

theorem takeStaged_narrows (x : Window) : Narrows x (takeStaged x) := (takeStaged_spec x).2.2

/-- An entry that takes the window's one new region, which is valid. -/
structure Describes (s : State) (w : WinId) (d : TakenDef) (y : Window) : Prop where
  off    : ((getWin s w).state = .off ↔ (getWin s w).defn = none) → (y.state = .off ↔ y.defn = none)
  region : ∀ e ∈ describedRegions y, e ∈ describedRegions (getWin s w) ∨ d = .enabled e

theorem validate_enabled {w : WinId} {d : WinDef} (h : validate s w (some (.enabled d)) = none) :
    rangeOk d = true ∧ overlapsAny s w d = false := by
  unfold validate at h
  simp only at h
  split at h
  · cases h
  next hr =>
    split at h
    · cases h
    next ho => exact ⟨by simpa using hr, by simpa using ho⟩

theorem validate_apart {w : WinId} {d : WinDef} (h : validate s w (some (.enabled d)) = none) :
    rangesMeet d.base.toNat d.regionEnd (pageBase s) (pageBase s + 16384) = false ∧
    ∀ v, v ≠ w → ∀ e ∈ describedRegions (getWin s v),
      rangesMeet d.base.toNat d.regionEnd e.base.toNat e.regionEnd = false := by
  obtain ⟨-, ho⟩ := validate_enabled h
  simp only [overlapsAny, Bool.or_eq_false_iff, List.any_eq_false, Bool.and_eq_true, decide_eq_true_eq, not_and,
    Bool.not_eq_true] at ho
  refine ⟨ho.1, fun v hv e he => ?_⟩
  have hover := ho.2 v (mem_allWins v) hv
  rw [overlapsWindow, Bool.or_eq_false_iff] at hover
  rw [describedRegions, List.mem_append] at he
  rcases he with he | he
  · rw [Option.mem_toList] at he
    rw [he] at hover
    exact hover.1
  · split at he
    next hs =>
      rw [hs] at hover
      rw [List.mem_singleton.mp he]
      exact hover.2
    · cases he
    · cases he

/-- What a move does to the regions: it narrows them, or one window takes a valid definition. -/
inductive RegionStep (s : State) : State → Prop
  | narrows {t : State} (h : ∀ w, Narrows (getWin s w) (getWin t w)) : RegionStep s t
  | takes (w : WinId) (d : TakenDef) (f : Window → Window) (hs : s.engine.state ≠ .reset ∨ s.engine.load ≠ .idle)
      (hv : validate s w (some d) = none) (hd : Describes s w d (f (getWin s w))) : RegionStep s (modWin s w f)

/-- What a move does to the page and to the engine's states that the invariants speak of. -/
inductive EngineStep (s : State) : State → Prop
  | same {t : State} (hs : t.engine.state = s.engine.state) (hc : t.engine.cpb = s.engine.cpb)
      (hl : t.engine.load = s.engine.load) : EngineStep s t
  | leavesLoad {t : State} (hs : (t.engine.state = .running ∧ s.engine.load ≠ .idle) ∨ t.engine.state = .halted) (hc : t.engine.cpb = s.engine.cpb)
      (hl : t.engine.load = .idle) : EngineStep s t
  | loads {t : State} (h : s.engine.load ≠ .idle) (hs : t.engine.state = s.engine.state)
      (hc : t.engine.cpb = s.engine.cpb) : EngineStep s t
  | released {t : State} (h : s.engine.state = .reset)
      (ht : (t.engine.state = .bypassed ∧ t.engine.load = s.engine.load) ∨ t.engine.state = .loading)
      (hw : t.windows = s.windows) : EngineStep s t

theorem EngineStep.loadOnly (h : EngineStep s t) (hs : LoadOnlyWhileLoading s) : LoadOnlyWhileLoading t := by
  intro hne
  cases h with
  | same h1 h2 h3 => rw [h1]; exact hs (by rwa [← h3])
  | leavesLoad h1 h2 h3 => exact absurd h3 hne
  | loads h1 h2 h3 => rw [h2]; exact hs h1
  | released h1 h2 h3 =>
    rcases h2 with ⟨-, h4⟩ | h2
    · rw [h4] at hne
      exact absurd ((hs hne).symm.trans h1) (by simp)
    · exact h2

theorem Move.engineStep (h : Move ld s t) : EngineStep s t := by
  cases h with
  | quiet h => exact .same h.state h.cpb h.load
  | cleared h => exact .same (by rw [h.engine]) (by rw [h.engine]) (by rw [h.engine])
  | halts =>
    have h := enterHalted_engine s
    exact .leavesLoad (.inr (by rw [h])) (by rw [h]) (by rw [h])
  | runs h hl => exact .leavesLoad (.inl ⟨rfl, h⟩) rfl rfl
  | loads l h => exact .loads h rfl rfl
  | strapped cpb h st l hst => exact .released h hst rfl
  | _ => exact .same (by simp) (by simp) (by simp)

theorem RegionStep.of_eq (h : t.windows = s.windows) : RegionStep s t :=
  .narrows fun w => by rw [getWin_congr h]; exact .rfl

theorem RegionStep.of_narrowed {w : WinId} {f : Window → Window} (h : Narrows (getWin s w) (f (getWin s w)))
    (ht : ∀ v, getWin t v = if w = v then f (getWin s w) else getWin s v) : RegionStep s t :=
  .narrows fun v => by
    rw [ht]
    split
    next e => rwa [← e]
    next => exact .rfl

theorem staged_describes (w : WinId) (d : TakenDef) : Describes s w d { getWin s w with staged := some d } := by
  refine ⟨id, fun e he => ?_⟩
  rw [describedRegions, List.mem_append] at he
  rcases he with he | he
  · exact .inl (List.mem_append_left _ he)
  · cases d with
    | enabled d => exact .inr (by rw [List.mem_singleton.mp he])
    | disabled => cases he

theorem applied_describes (w : WinId) (d : TakenDef) : Describes s w d (appliedEntry (getWin s w) d) := by
  refine ⟨fun _ => ?_, fun e he => ?_⟩
  · cases d <;> simp [appliedEntry]
  · cases d with
    | enabled d =>
      have he : e = d := by simpa [describedRegions, Window.region, appliedEntry] using he
      exact .inr (by rw [he])
    | disabled => simp [describedRegions, Window.region, appliedEntry] at he

theorem Move.regionStep (h : Move ld s t) : RegionStep s t := by
  cases h with
  | quiet h => exact .of_eq h.windows
  | cleared h => exact .narrows h.regions
  | freed c b hb hp hc =>
    exact .of_narrowed (f := fun x => takeStaged { x with bound := x.bound - 1 })
      (takeStaged_narrows { getWin s b.win with bound := (getWin s b.win).bound - 1 }) fun v => getWin_freeBound s c b.win v
  | bound c w bay key len objId hc hw =>
    exact .of_narrowed (w := w) (f := fun x => { x with
      bound := x.bound + 1, counters := { x.counters with opened := raise x.counters.opened 1 } }) .rfl fun v => by
        rw [bindContext, getWin_modWin]
        rfl
  | win w f h => exact .of_narrowed h.narrows fun v => getWin_modWin s w v f
  | staged w d hs hb hv => exact .takes w d _ (.inl hs) hv (staged_describes w d)
  | applied w d hs hv => exact .takes w d _ hs hv (applied_describes w d)
  | _ => exact .of_eq (by simp)

theorem RegionStep.inv (hr : RegionStep s t) (hp : t.engine.cpb = s.engine.cpb)
    (hs : s.engine.state ≠ .reset → t.engine.state ≠ .reset) (hl : LoadOnlyWhileLoading t) (h : RegionInv s) :
    RegionInv t := by
  obtain ⟨hw, ha, hn, hload⟩ := (regionInv_iff s).mp h
  have hpage : pageBase t = pageBase s := by rw [pageBase, pageBase, hp]
  have hregion : ∀ x, RegionWin s x → RegionWin t x := fun x hx => by rw [RegionWin, hpage]; exact hx
  rw [regionInv_iff]
  cases hr with
  | narrows hnar =>
    refine ⟨fun w => hregion _ ((hnar w).region (hw w)), fun w v hv => (hnar w).apart (hnar v) (ha w v hv),
      fun w hne => hs (hn w fun e => hne ?_), hl⟩
    exact List.subset_nil.mp (e ▸ (hnar w).2)
  | takes w d f hst hv hd =>
    have hstate : s.engine.state ≠ .reset := by
      rcases hst with h | h
      · exact h
      · rw [hload h]
        simp
    have hself : getWin (modWin s w f) w = f (getWin s w) := getWin_modWin_self s w f
    have hother : ∀ v, v ≠ w → getWin (modWin s w f) v = getWin s v := fun v h => getWin_modWin_of_ne _ _ _ _ (Ne.symm h)
    have hapart : ∀ v, v ≠ w → ApartWin (f (getWin s w)) (getWin s v) := by
      intro v hne e he
      rcases hd.region e he with he | rfl
      · exact ha w v hne e he
      · exact (validate_apart hv).2 v hne
    refine ⟨fun v => ?_, fun u v huv => ?_, fun _ _ => hs hstate, hl⟩
    · by_cases hvw : v = w
      · subst hvw
        rw [hself]
        refine hregion _ ⟨hd.off (hw v).1, fun e he => ?_⟩
        rcases hd.region e he with he | rfl
        · exact (hw v).2 e he
        · exact ⟨(validate_enabled hv).1, (validate_apart hv).1⟩
      · rw [hother v hvw]
        exact hregion _ (hw v)
    · by_cases hu : u = w
      · subst hu
        rw [hself, hother v huv]
        exact hapart v huv
      · rw [hother u hu]
        by_cases hvw : v = w
        · subst hvw
          rw [hself]
          exact (hapart u hu).symm
        · rw [hother v hvw]
          exact ha u v huv

/-- The release of the pin leaves the windows, of which RESET describes none. -/
theorem RegionInv.released (hi : RegionInv s) (h : s.engine.state = .reset) (hw : t.windows = s.windows)
    (hl : LoadOnlyWhileLoading t) : RegionInv t := by
  obtain ⟨hwin, -, hn, -⟩ := (regionInv_iff s).mp hi
  have hnone : ∀ w, describedRegions (getWin t w) = [] := fun w => by
    rw [getWin_congr hw]
    by_contra hne
    exact hn w hne h
  rw [regionInv_iff]
  refine ⟨fun w => ⟨?_, fun d hd => ?_⟩, fun w v _ d hd => ?_, fun w hne => absurd (hnone w) hne, hl⟩
  · rw [getWin_congr hw]
    exact (hwin w).1
  · rw [hnone w] at hd
    cases hd
  · rw [hnone w] at hd
    cases hd

theorem Move.regionInv (hs : RegionInv s) (h : Move ld s t) : RegionInv t := by
  have hl := h.engineStep.loadOnly hs.2
  have hkept := h.regionStep.inv (hl := hl) (h := hs)
  cases h.engineStep with
  | same h1 h2 h3 => exact hkept h2 (by rw [h1]; exact id)
  | leavesLoad h1 h2 h3 => exact hkept h2 fun _ => by rcases h1 with ⟨h, -⟩ | h <;> rw [h] <;> simp
  | loads h1 h2 h3 => exact hkept h3 (by rw [h2]; exact id)
  | released hr ht hw => exact hs.released hr hw hl

end Sys2Proof.Machine
end

section
/-! Insertion into an extent list, the extent pool, and the queues. -/

set_option Elab.async false

namespace Sys2Proof.Machine

open Relation

variable {ld : Bool} {s t : State}

/-! ### Insertion (R70) -/

section Insertion

variable {e f : Nat} {x : Extent} {rest : List Extent}

theorem start_lt_stop_of_mem {ps : List Extent} (h : extentsWf ps = true) {p : Extent} (hp : p ∈ ps) : p.start < p.stop := by
  induction ps with
  | nil => cases hp
  | cons q ps ih =>
    obtain ⟨hq, -, hwf⟩ := (extentsWf_cons q ps).mp h
    rcases List.mem_cons.mp hp with rfl | hp
    · exact hq
    · exact ih hwf hp

theorem insertRange_nil (e f : Nat) : insertRange e f [] = [{ start := e, stop := f }] := rfl

/-- An extent before the range stays in front. -/
theorem insertRange_cons_before (hf : e < f) (hx : x.start < x.stop) (h : x.stop < e) :
    insertRange e f (x :: rest) = x :: insertRange e f rest ∧ meetCount e f (x :: rest) = meetCount e f rest := by
  have hmeets : meets e f x = false := by simp [meets]; omega
  have hafter : ¬ f < x.start := by omega
  constructor <;> simp [insertRange, meetCount, h, hmeets, hafter]

/-- A range before every extent is put in front. -/
theorem insertRange_of_before {list : List Extent} (hf : e < f) (hwf : extentsWf list = true)
    (h : ∀ y ∈ list, f < y.start) : insertRange e f list = { start := e, stop := f } :: list ∧ meetCount e f list = 0 := by
  have hbefore : list.filter (fun y => decide (y.stop < e)) = [] := List.filter_eq_nil_iff.mpr fun y hy => by
    have := h y hy
    have := start_lt_stop_of_mem hwf hy
    simp only [decide_eq_true_eq]
    omega
  have hmeets : list.filter (meets e f) = [] := List.filter_eq_nil_iff.mpr fun y hy => by
    have := h y hy
    simp only [meets, decide_eq_true_eq]
    omega
  have hall : list.filter (fun y => decide (f < y.start)) = list :=
    List.filter_eq_self.mpr fun y hy => decide_eq_true (h y hy)
  exact ⟨by rw [insertRange, hbefore, hmeets, hall]; rfl, by rw [meetCount, hmeets]; rfl⟩

/-- An extent that meets the range widens it, and is replaced. -/
theorem insertRange_cons_meets (hwf : extentsWf (x :: rest) = true) (h : meets e f x = true) :
    insertRange e f (x :: rest) = insertRange (min e x.start) (max f x.stop) rest ∧
    meetCount e f (x :: rest) = meetCount (min e x.start) (max f x.stop) rest + 1 := by
  obtain ⟨hx, hrest, hwf⟩ := (extentsWf_cons x rest).mp hwf
  have hmeet : e ≤ x.stop ∧ x.start ≤ f := by simpa [meets] using h
  have hspec : ∀ y ∈ rest, x.stop < y.start ∧ y.start < y.stop := fun y hy => ⟨hrest y hy, start_lt_stop_of_mem hwf hy⟩
  have hbefore : ∀ a, a ≤ x.stop → rest.filter (fun y => decide (y.stop < a)) = [] := fun a ha =>
    List.filter_eq_nil_iff.mpr fun y hy => by
      have := hspec y hy
      simp only [decide_eq_true_eq]
      omega
  have hmeets : rest.filter (meets e f) = rest.filter (meets (min e x.start) (max f x.stop)) :=
    List.filter_congr fun y hy => by
      have := hspec y hy
      simp only [meets, decide_eq_decide]
      omega
  have hafter : rest.filter (fun y => decide (f < y.start)) = rest.filter (fun y => decide (max f x.stop < y.start)) :=
    List.filter_congr fun y hy => by
      have := hspec y hy
      simp only [decide_eq_decide]
      omega
  have hfirst : ¬ x.stop < e ∧ ¬ f < x.start := by omega
  constructor
  · simp only [insertRange, List.filter_cons, h, decide_eq_true_eq, hfirst, if_false, if_true, hbefore _ hmeet.1,
      hbefore (min e x.start) (by omega), hmeets, hafter, hull, List.nil_append]
  · simp [meetCount, h, hmeets]

/-- Insertion keeps an extent or puts one that starts at the range or at an extent. -/
theorem mem_insertRange_start {list : List Extent} {q : Extent} (hwf : extentsWf list = true) (hf : e < f)
    (hq : q ∈ insertRange e f list) : e ≤ q.start ∨ ∃ p ∈ list, p.start ≤ q.start := by
  induction list generalizing e f with
  | nil =>
    rw [insertRange_nil] at hq
    exact .inl (by rw [List.mem_singleton.mp hq])
  | cons x rest ih =>
    obtain ⟨hx, hrest, hwf'⟩ := (extentsWf_cons x rest).mp hwf
    by_cases hbefore : x.stop < e
    · rw [(insertRange_cons_before hf hx hbefore).1] at hq
      rcases List.mem_cons.mp hq with rfl | hq
      · exact .inr ⟨_, List.mem_cons_self, Nat.le_refl _⟩
      · rcases ih hwf' hf hq with h | ⟨p, hp, hle⟩
        · exact .inl h
        · exact .inr ⟨p, List.mem_cons_of_mem _ hp, hle⟩
    · by_cases hafter : f < x.start
      · rw [(insertRange_of_before hf hwf fun y hy => ?_).1] at hq
        · rcases List.mem_cons.mp hq with rfl | hq
          · exact .inl (Nat.le_refl _)
          · exact .inr ⟨q, hq, Nat.le_refl _⟩
        · rcases List.mem_cons.mp hy with rfl | hy
          · exact hafter
          · have := hrest y hy
            omega
      · rw [(insertRange_cons_meets hwf (by simp [meets]; omega)).1] at hq
        rcases ih hwf' (by omega) hq with h | ⟨p, hp, hle⟩
        · by_cases hmin : e ≤ x.start
          · exact .inl (by omega)
          · exact .inr ⟨x, List.mem_cons_self, by omega⟩
        · exact .inr ⟨p, List.mem_cons_of_mem _ hp, hle⟩

/-- R70: insertion keeps the form, covers the list and the range, and replaces the extents that meet the range by one. -/
theorem insertRange_spec {list : List Extent} (hwf : extentsWf list = true) (hf : e < f) :
    extentsWf (insertRange e f list) = true ∧
    (∀ a : Nat, covered (insertRange e f list) a ↔ covered list a ∨ (e ≤ a ∧ a < f)) ∧
    (insertRange e f list).length + meetCount e f list = list.length + 1 := by
  induction list generalizing e f with
  | nil => exact ⟨by simpa [insertRange, extentsWf, hull] using hf, fun a => by simp [insertRange, hull, covered_cons], rfl⟩
  | cons x rest ih =>
    obtain ⟨hx, hrest, hwf'⟩ := (extentsWf_cons x rest).mp hwf
    by_cases hbefore : x.stop < e
    · obtain ⟨heq, hcount⟩ := insertRange_cons_before (rest := rest) hf hx hbefore
      obtain ⟨hform, hcover, hlength⟩ := ih hwf' hf
      rw [heq, hcount]
      refine ⟨(extentsWf_cons _ _).mpr ⟨hx, fun q hq => ?_, hform⟩, fun a => ?_, ?_⟩
      · rcases mem_insertRange_start hwf' hf hq with h | ⟨p, hp, hle⟩
        · omega
        · have := hrest p hp
          omega
      · rw [covered_cons, covered_cons, hcover, or_assoc]
      · simp only [List.length_cons]
        omega
    · by_cases hafter : f < x.start
      · have hall : ∀ y ∈ x :: rest, f < y.start := by
          intro y hy
          rcases List.mem_cons.mp hy with rfl | hy
          · exact hafter
          · have := hrest y hy
            omega
        obtain ⟨heq, hcount⟩ := insertRange_of_before hf hwf hall
        rw [heq, hcount]
        exact ⟨(extentsWf_cons _ _).mpr ⟨hf, hall, hwf⟩, fun a => by rw [covered_cons, or_comm], rfl⟩
      · obtain ⟨heq, hcount⟩ := insertRange_cons_meets (e := e) (f := f) hwf (by simp [meets]; omega)
        obtain ⟨hform, hcover, hlength⟩ := ih (e := min e x.start) (f := max f x.stop) hwf' (by omega)
        rw [heq, hcount]
        refine ⟨hform, fun a => ?_, by simp only [List.length_cons]; omega⟩
        rw [hcover, covered_cons]
        by_cases hcov : covered rest a
        · simp [hcov]
        · simp only [hcov, false_or, or_false]
          omega

end Insertion

/-! ### The extent pool (R65 to R67) -/

/-- A context's number of extents. -/
def extentCount (s : State) (c : CtxId) : Nat := (getCtx s c).extents.length

theorem listedRecords_eq (s : State) : listedRecords s = ∑ c : CtxId, extentCount s c :=
  sum_map_toList s.ctxs fun x => x.extents.length

theorem listedRecords_of_ctx {c : CtxId} {y : Context} (h : t.ctxs = s.ctxs.set c.val y c.isLt) :
    listedRecords t + extentCount s c = listedRecords s + y.extents.length := by
  have hchange := sum_change_one (f := extentCount s) (g := extentCount t) c fun k hk => by
    rw [extentCount, extentCount, getCtx_of_set h, if_neg (Ne.symm hk)]
  rw [listedRecords_eq, listedRecords_eq, hchange, extentCount, getCtx_of_set h, if_pos rfl]

/-- What PoolInv says of one context. -/
def PoolCtx (x : Context) : Prop := extentsWf x.extents = true ∧ (x.state ≠ .collecting → x.extents = [])

/-- A move leaves the pool and the lists, returns a context's list, inserts in one, or CLEAR-ALL returns them all. -/
inductive PoolStep (s : State) : State → Prop
  | same {t : State} (hp : t.pool = s.pool) (hc : t.ctxs = s.ctxs) : PoolStep s t
  | other {t : State} (c : CtxId) (y : Context) (hp : t.pool = s.pool) (hc : t.ctxs = s.ctxs.set c.val y c.isLt)
      (hy : PoolCtx (getCtx s c) → y.extents = (getCtx s c).extents ∧ (y.state ≠ .collecting → y.extents = [])) :
      PoolStep s t
  | returned {t : State} (c : CtxId) (y : Context) (hy : y.extents = []) (hc : t.ctxs = s.ctxs.set c.val y c.isLt)
      (hp : t.pool = { s.pool with level := s.pool.level + extentCount s c }) : PoolStep s t
  | inserted (c : CtxId) (e f : Nat) (hc : (getCtx s c).state = .collecting) (hef : e < f)
      (hp : meetCount e f (getCtx s c).extents = 0 → s.pool.level ≠ 0) : PoolStep s (insertPieces s c e f)
  | cleared {t : State} (h : ClearedFrom s t) : PoolStep s t

theorem finalise_pool (s : State) (c : CtxId) (f : FinalRec) :
    (finalise s c f).pool = { s.pool with level := s.pool.level + extentCount s c } := by
  simp [finalise, returnList, detachSlots, extentCount, finalContext]

theorem Move.poolStep (h : Move ld s t) : PoolStep s t := by
  cases h with
  | quiet h => exact .same h.pool h.ctxs
  | cleared h => exact .cleared h
  | attached l r c q hrun ha hc hq => exact .other c _ rfl rfl fun h => ⟨rfl, h.2⟩
  | reconciled l c q old hs hrun =>
    obtain ⟨hstate, -, -, -, hext, -⟩ := correctedContext_frame (getCtx s c) q old
    refine .other c _ rfl rfl fun h => ⟨hext, fun hn => ?_⟩
    exact hext.trans (h.2 (by rwa [hstate] at hn))
  | slotFailed l c q f hs hc hf => exact .returned c _ rfl (finalise_ctxs _ c f) (finalise_pool _ c f)
  | finished c f b hf hc => exact .returned c _ rfl (finalise_ctxs _ c f) (finalise_pool _ c f)
  | second c f hc hf => exact .other c _ rfl rfl fun h => ⟨rfl, fun _ => h.2 (by rw [hc]; simp)⟩
  | owes c hc => exact .other c _ rfl rfl fun h => ⟨rfl, h.2⟩
  | ctx c f h => exact .other c _ rfl rfl fun hx => ⟨h.extents, fun hn => h.extents.trans (hx.2 (by rwa [h.state] at hn))⟩
  | guarded c n hc ho => exact .other c _ rfl rfl fun h => ⟨rfl, fun _ => h.2 (isFinal_spec hc).2.2.1⟩
  | freed c b hb hp hc => exact .other c _ rfl rfl fun h => ⟨(h.2 hc).symm, fun _ => rfl⟩
  | unbound c hb hp hc => exact .other c _ rfl rfl fun h => ⟨(h.2 hc).symm, fun _ => rfl⟩
  | bound c w bay key len objId hc hw =>
    exact .other c _ rfl rfl fun h => ⟨(h.2 (by rw [hc]; simp)).symm, fun _ => rfl⟩
  | collects c key n hb hc =>
    exact .other c _ rfl rfl fun h => ⟨(h.2 (by rw [hc]; simp)).symm, fun hn => absurd rfl hn⟩
  | inserted c e f hc hef hp => exact .inserted c e f hc hef hp
  | _ => exact .same (by simp) (by simp)

theorem forall_ctx_of_set {Q : Context → Prop} {c : CtxId} {y : Context} (h : t.ctxs = s.ctxs.set c.val y c.isLt)
    (hs : ∀ k, Q (getCtx s k)) (hy : Q y) (k : CtxId) : Q (getCtx t k) := by
  rw [getCtx_of_set h]
  split
  · exact hy
  · exact hs k

theorem Move.poolInv (hs : PoolInv s) (h : Move ld s t) : PoolInv t := by
  obtain ⟨hsum, hlow, hctx⟩ := hs
  cases h.poolStep with
  | same hp hc =>
    rw [PoolInv, hp, listedRecords, hc]
    exact ⟨hsum, hlow, fun c => by rw [getCtx_congr hc]; exact hctx c⟩
  | other c y hp hc hy =>
    obtain ⟨hext, hempty⟩ := hy (hctx c)
    have hlisted := listedRecords_of_ctx hc
    rw [hext, extentCount] at hlisted
    rw [PoolInv, hp]
    exact ⟨by omega, hlow, forall_ctx_of_set (Q := PoolCtx) hc hctx ⟨by rw [hext]; exact (hctx c).1, hempty⟩⟩
  | returned c y hy hc hp =>
    have hlisted := listedRecords_of_ctx hc
    rw [hy, List.length_nil] at hlisted
    rw [PoolInv, hp]
    exact ⟨by simp only; omega, Nat.le_add_right_of_le hlow,
      forall_ctx_of_set (Q := PoolCtx) hc hctx ⟨by rw [hy]; rfl, fun _ => hy⟩⟩
  | inserted c e f hc hef hp =>
    obtain ⟨hform, -, hlength⟩ := insertRange_spec (hctx c).1 hef
    have hset : (insertPieces s c e f).ctxs = s.ctxs.set c.val
      { getCtx s c with extents := insertRange e f (getCtx s c).extents } c.isLt := rfl
    have hlisted := listedRecords_of_ctx hset
    simp only [extentCount] at hlisted
    have hpool : (insertPieces s c e f).pool =
        (setPool s (s.pool.level + meetCount e f (getCtx s c).extents - 1)).pool := rfl
    rw [PoolInv, hpool, setPool]
    refine ⟨?_, Nat.min_le_right _ _, forall_ctx_of_set (Q := PoolCtx) hset hctx ⟨hform, fun hn => absurd hc hn⟩⟩
    have : 1 ≤ s.pool.level + meetCount e f (getCtx s c).extents := by
      by_cases hz : meetCount e f (getCtx s c).extents = 0
      · have := hp hz
        omega
      · omega
    simp only
    omega
  | cleared h =>
    have hnone : listedRecords t = 0 := by
      rw [listedRecords_eq]
      exact Finset.sum_eq_zero fun k _ => by rw [extentCount, h.ctxs k]; rfl
    rw [PoolInv, h.pool, hnone]
    exact ⟨rfl, by simp only; omega, fun c => by rw [h.ctxs c]; exact ⟨rfl, fun _ => rfl⟩⟩

end Sys2Proof.Machine
end

section
/-! What the moves keep: the lanes' queues, the pending list and the result ring. -/

set_option Elab.async false

namespace Sys2Proof.Machine

open Relation

variable {ld : Bool} {s t : State}

/-! ### The lanes' queues (R114, R115) -/

/-- A lane holds no request that it did not hold, and its backlog has not grown. -/
def LaneKeeps (x y : Lane) : Prop := laneRequests y ⊆ laneRequests x ∧ y.backlog.length ≤ x.backlog.length

theorem LaneKeeps.same {x : Lane} : LaneKeeps x x := ⟨List.Subset.refl _, Nat.le_refl _⟩

theorem LaneKeeps.trans {x y z : Lane} (h : LaneKeeps x y) (k : LaneKeeps y z) : LaneKeeps x z :=
  ⟨fun _ hr => h.1 (k.1 hr), k.2.trans h.2⟩

theorem LaneKeeps.headGone (x : Lane) : LaneKeeps x { x with head := none } :=
  ⟨List.subset_append_right _ _, Nat.le_refl _⟩

theorem LaneKeeps.head {x : Lane} {h k : Head} (hx : x.head = some h) (hr : k.req = h.req) :
    LaneKeeps x { x with head := some k } := by
  refine ⟨?_, Nat.le_refl _⟩
  simp [laneRequests, hx, hr]

theorem LaneKeeps.moveUp (x : Lane) (hx : x.head = none) : LaneKeeps x (moveUp x) := by
  unfold Sys2Proof.Machine.moveUp
  split
  · exact .same
  next r rest hb =>
    constructor <;> simp [laneRequests, hx, hb]

theorem LaneKeeps.releaseHead (q : Request → HoldReason → Bool) (x : Lane) : LaneKeeps x (releaseHead q x) := by
  unfold Sys2Proof.Machine.releaseHead
  split
  next hx =>
    split
    · exact .head hx rfl
    · exact .same
  all_goals exact .same

/-- What the lanes and the stall hold has the link's format, and no backlog exceeds 8. -/
def LaneInv (s : State) : Prop := RequestsWf s ∧ ∀ l : LaneId, (getLane s l).backlog.length ≤ 8

/-- Every lane keeps, and a stall that stands stood before. -/
structure LanesKeep (s t : State) : Prop where
  lanes : ∀ l, LaneKeeps (getLane s l) (getLane t l)
  stall : ∀ st, t.stall = some st → s.stall = some st

theorem LanesKeep.inv (h : LanesKeep s t) (hs : LaneInv s) : LaneInv t :=
  ⟨⟨fun l r hr => hs.1.1 l r ((h.lanes l).1 hr), fun st hst => hs.1.2 st (h.stall st hst)⟩,
    fun l => ((h.lanes l).2).trans (hs.2 l)⟩

theorem LanesKeep.of_eq (hl : t.lanes = s.lanes) (hst : t.stall = s.stall) : LanesKeep s t :=
  { lanes := fun l => by rw [getLane_congr hl]; exact .same, stall := fun st h => by rw [← h, hst] }

theorem LanesKeep.of_lane {l : LaneId} {x : Lane} (hl : t.lanes = (setLane s l x).lanes) (hst : t.stall = s.stall)
    (h : LaneKeeps (getLane s l) x) : LanesKeep s t :=
  { lanes := fun k => by
      rw [getLane_congr hl, getLane_setLane]
      split
      next e => rwa [← e]
      next => exact .same
    stall := fun st h => by rw [← h, hst] }

theorem awaits_head {l : LaneId} {r : Request} (h : awaits s l r) : ∃ k, (getLane s l).head = some k ∧ r = k.req := by
  rcases h with h | h <;> exact ⟨_, h, rfl⟩

theorem haltHead_keeps (l k : LaneId) : LaneKeeps (getLane s k) (getLane (haltHead s l) k) := by
  have hgone : ∀ x : State, x.lanes = s.lanes → LaneKeeps (getLane s k) (getLane (clearHead x l) k) := by
    intro x hx
    rw [getLane_clearHead, getLane_congr hx, getLane_congr hx]
    split
    next e => rw [← e]; exact .headGone _
    next => exact .same
  unfold haltHead
  split
  case h_1 => exact hgone _ (by simp)
  case h_2 => exact hgone _ (by simp)
  case h_3 => exact hgone _ (by simp)
  case h_4 => exact hgone _ (by simp)
  all_goals exact .same

theorem haltHeads_keep (ls : List LaneId) (k : LaneId) : LaneKeeps (getLane s k) (getLane (ls.foldl haltHead s) k) := by
  induction ls generalizing s with
  | nil => exact .same
  | cons l ls ih => exact (haltHead_keeps l k).trans ih

theorem LaneInv.of_lane {l : LaneId} {x : Lane} (hs : LaneInv s) (hl : t.lanes = (setLane s l x).lanes)
    (hst : ∀ st, t.stall = some st → st.waiting.wf = true) (hr : ∀ r ∈ laneRequests x, r.wf = true)
    (hb : x.backlog.length ≤ 8) : LaneInv t := by
  have hlane : ∀ k, getLane t k = if l = k then x else getLane s k := fun k => by
    rw [getLane_congr hl, getLane_setLane]
  refine ⟨⟨fun k r hrk => ?_, hst⟩, fun k => ?_⟩
  · rw [hlane] at hrk
    split at hrk
    · exact hr r hrk
    · exact hs.1.1 k r hrk
  · rw [hlane]
    split
    · exact hb
    · exact hs.2 k

theorem mem_laneRequests_appendBacklog {x : Lane} {r q : Request} (h : q ∈ laneRequests (appendBacklog x r)) :
    q ∈ laneRequests x ∨ q = r := by
  simp only [laneRequests, appendBacklog, List.mem_append, List.mem_singleton] at h ⊢
  tauto

theorem acceptOnto_laneInv {r : Request} (hs : LaneInv s) (hr : r.wf = true) : LaneInv (acceptOnto s r) := by
  have happend : ∀ x : Lane, laneRequests x ⊆ laneRequests (getLane s r.lane) →
      ∀ q ∈ laneRequests (appendBacklog x r), q.wf = true := by
    intro x hx q hq
    rcases mem_laneRequests_appendBacklog hq with hq | rfl
    · exact hs.1.1 r.lane q (hx hq)
    · exact hr
  rcases acceptOnto_cases s r with ⟨-, hb, h⟩ | ⟨hb, h⟩ | ⟨hh, hb, h⟩ | ⟨-, -, h⟩
  · rw [h]
    refine hs.of_lane rfl hs.1.2 (fun q hq => ?_) (by simp [hb])
    simp only [laneRequests, hb, Option.toList_some, List.map_cons, List.map_nil, List.append_nil,
      List.mem_singleton] at hq
    rw [hq, hr]
  · rw [h]
    exact hs.of_lane rfl hs.1.2 (happend _ (List.Subset.refl _)) (by
      simp only [appendBacklog, List.length_append, List.length_singleton]
      exact hb)
  · rw [h]
    refine hs.of_lane rfl hs.1.2 (happend _ (LaneKeeps.moveUp _ hh).1) ?_
    have hle := hs.2 r.lane
    simp only [Config.backlogMax] at hb
    cases hlist : (getLane s r.lane).backlog with
    | nil => simp [hlist] at hb
    | cons q rest =>
      simp only [hlist, List.length_cons] at hle
      simp only [appendBacklog, moveUp, hlist, List.length_append, List.length_singleton]
      exact hle
  · rw [h]
    exact ⟨⟨hs.1.1, fun st hst => by cases hst; exact hr⟩, hs.2⟩

theorem endStall_laneInv (l : LaneId) (hs : LaneInv s) : LaneInv (endStall s l) := by
  unfold endStall
  split
  · exact hs
  next st hst =>
    split
    next h =>
      refine LaneInv.of_lane (s := s) hs rfl nofun (fun q hq => ?_) ?_
      · rcases mem_laneRequests_appendBacklog hq with hq | rfl
        · exact hs.1.1 l q hq
        · exact hs.1.2 st hst
      · simp only [appendBacklog, List.length_append, List.length_singleton]
        exact h.2
    next => exact hs

theorem ClearedFrom.lanesKeep (h : ClearedFrom s t) : LanesKeep s t :=
  { lanes := fun l => by
      refine ⟨fun r hr => ?_, by rw [h.backlog]⟩
      simp only [laneRequests, List.mem_append, List.mem_map, Option.mem_toList, h.backlog] at hr ⊢
      rcases hr with ⟨k, hk, rfl⟩ | hr
      · obtain ⟨j, hj, hreq⟩ := h.heads l k hk
        exact .inl ⟨j, hj, hreq⟩
      · exact .inr hr
    stall := fun st hst => by rw [← hst, h.stall] }

theorem Move.laneInv (hs : LaneInv s) (h : Move ld s t) : LaneInv t := by
  cases h with
  | quiet h => exact (LanesKeep.of_eq h.lanes h.stall).inv hs
  | cleared h => exact h.lanesKeep.inv hs
  | accepted r hr => exact acceptOnto_laneInv hs hr
  | unstalled l => exact endStall_laneInv l hs
  | movedUp l h => exact (LanesKeep.of_lane (l := l) rfl rfl (.moveUp _ h)).inv hs
  | halts =>
    have hlanes : (enterHalted s).lanes = (allLanes.foldl haltHead s).lanes := by simp only [enterHalted]
    have hstall : (enterHalted s).stall = s.stall := by simp
    refine LanesKeep.inv (s := s) ⟨fun l => ?_, fun st h => by rw [← hstall, h]⟩ hs
    rw [getLane_congr hlanes]
    exact haltHeads_keep allLanes l
  | headGone l h => exact (LanesKeep.of_lane (l := l) rfl rfl (.headGone _)).inv hs
  | readGone l hf hh => exact (LanesKeep.of_lane (l := l) rfl rfl (.headGone _)).inv hs
  | slotFreed l hs' hc => exact (LanesKeep.of_lane (l := l) rfl rfl (.headGone _)).inv hs
  | reconciled l c q old hs' hrun => exact (LanesKeep.of_lane (l := l) rfl rfl (.headGone _)).inv hs
  | slotFailed l c q f hs' hc hf => exact (LanesKeep.of_lane (l := l) rfl rfl (.headGone _)).inv hs
  | held l r h hrun ha hh =>
    obtain ⟨k, hk, rfl⟩ := awaits_head ha
    exact (LanesKeep.of_lane (l := l) rfl rfl (.head (k := { req := k.req, standing := .held h }) hk rfl)).inv hs
  | heldRead l r g hrun ha =>
    obtain ⟨k, hk, rfl⟩ := awaits_head ha
    exact (LanesKeep.of_lane (l := l) rfl rfl (.head (k := { req := k.req, standing := .held .fence }) hk rfl)).inv hs
  | attached l r c q hrun ha hc hq =>
    obtain ⟨k, hk, rfl⟩ := awaits_head ha
    exact (LanesKeep.of_lane (l := l) rfl rfl (.head (k := { req := k.req, standing := .held .reconcile }) hk rfl)).inv hs
  | released q hq =>
    refine LanesKeep.inv (s := s) ⟨fun l => ?_, fun st h => h⟩ hs
    have : getLane (releaseHeads s q) l = releaseHead q (getLane s l) := by simp [releaseHeads, getLane]
    rw [this]
    exact .releaseHead q _
  | finished c f b hf hc => exact (LanesKeep.of_eq (by simp) (by simp)).inv hs
  | freed c b hb hp hc => exact (LanesKeep.of_eq rfl rfl).inv hs
  | inserted c e f hc hef hp => exact (LanesKeep.of_eq rfl rfl).inv hs
  | _ => exact (LanesKeep.of_eq (by simp) (by simp)).inv hs

/-! ### The result ring (R171, R172) -/

/-- The unconsumed records, one in flight counted among them, are at most 256. -/
def RingInv (s : State) : Prop := unconsumed s + (if s.report.inFlight.isSome then 1 else 0) ≤ 256

/-- The Report Unit's fields that RingInv speaks of. -/
def ringCounts (s : State) : Word32 × Word32 × Option Record := (s.report.producer, s.report.consumer, s.report.inFlight)

theorem RingInv.congr (h : ringCounts t = ringCounts s) (hs : RingInv s) : RingInv t := by
  simp only [ringCounts, Prod.mk.injEq] at h
  rw [RingInv, unconsumed, h.1, h.2.1, h.2.2]
  exact hs

theorem Move.ringInv (hs : RingInv s) (h : Move ld s t) : RingInv t := by
  have hsame := fun h : ringCounts t = ringCounts s => hs.congr h
  cases h with
  | quiet h => exact hsame (by simp only [ringCounts, h.producer, h.consumer, h.inFlight])
  | cleared h => exact hsame (by simp only [ringCounts, h.counts.1, h.counts.2.1, h.counts.2.2])
  | builds rs hl hr =>
    have := reportRest_build s rs
    simp only [reportRest, ReportUnit.mk.injEq] at this
    exact hsame (by simp only [ringCounts, this])
  | departs r rest hl hm =>
    simp only [mayLeave, Bool.and_eq_true] at hm
    exact Nat.succ_le_of_lt (of_decide_eq_true hm.2)
  | counted h =>
    simp only [RingInv, unconsumed, h, if_true] at hs
    have hlt : (s.report.producer - s.report.consumer).toNat + 1 < 2 ^ 32 := by omega
    have hnext : (s.report.producer + 1 - s.report.consumer).toNat = (s.report.producer - s.report.consumer).toNat + 1 := by
      bv_omega
    simp only [RingInv, unconsumed, modReport_report, hnext]
    exact hs
  | consumed v h =>
    simp only [consumerOk, decide_eq_true_eq] at h
    exact h
  | zeroed =>
    show (0 - 0 : Word32).toNat + (if s.report.inFlight.isSome then 1 else 0) ≤ 256
    split <;> decide
  | _ => exact hsame (by simp [ringCounts])

/-! ### The pending list (R169, R174) -/

/-- Before the load fills it the pending list is empty. -/
def ListInv (s : State) : Prop :=
  s.report.list.length ≤ 32 ∧ (s.engine.state = .reset ∨ s.engine.state = .loading → s.report.list = []) ∧
    LoadOnlyWhileLoading s

theorem Move.list_of_notRunning (h : Move false s t) (hs : s.engine.state ≠ .running) (hn : s.report.list = []) :
    t.report.list = [] := by
  cases h with
  | quiet h => rw [h.list, hn]
  | cleared h => exact absurd h.running hs
  | builds rs hl hr =>
    rcases hr with hr | hr
    · cases hr
    · exact absurd hr hs
  | departs r rest hl hm => exact absurd (mayLeave_running hm) hs
  | _ => simpa using hn

theorem Move.listInv (hs : ListInv s) (h : Move false s t) : ListInv t := by
  obtain ⟨hlen, hempty, hload⟩ := hs
  refine ⟨h.list_le hlen, fun ht => ?_, h.engineStep.loadOnly hload⟩
  have hfrom : s.engine.state = .reset ∨ s.engine.state = .loading := by
    cases h.engineStep with
    | same h1 h2 h3 => rwa [h1] at ht
    | leavesLoad h1 h2 h3 => rcases h1 with ⟨h1, -⟩ | h1 <;> simp [h1] at ht
    | loads h1 h2 h3 => rwa [h2] at ht
    | released h1 h2 h3 => exact .inl h1
  exact h.list_of_notRunning (by rcases hfrom with h | h <;> rw [h] <;> simp) (hempty hfrom)

theorem queueInv_iff (s : State) : QueueInv s ↔ LaneInv s ∧ ListInv s ∧ RingInv s := by
  simp only [QueueInv, LaneInv, ListInv, RingInv]
  tauto

end Sys2Proof.Machine
end

section
/-! What the moves keep: the heads held for RECONCILE and FENCE, and the reconcile counts. -/

set_option Elab.async false

namespace Sys2Proof.Machine

open Relation

variable {ld : Bool} {s t : State}

/-! ### Held heads, slots and held reads (R101, R131) -/

/-- What HoldInv says of one lane: its head, its slot and its held read. -/
structure HoldLane (st : EngineState) (h : Option Head) (x : Slot) (f : Option FenceRec) : Prop where
  slot  : h.bind (·.hold) = some .reconcile ↔ x ≠ .empty
  write : x.write.isSome = true → x.write = h.map (·.req)
  fence : h.bind (·.hold) = some .fence ↔ f.isSome = true
  idle  : st ≠ .running → h.bind (·.hold) = none

theorem holdInv_iff (s : State) :
    HoldInv s ↔ ∀ l, HoldLane s.engine.state (getLane s l).head (getSlot s l) (getFence s l) :=
  ⟨fun h l => ⟨(h l).1, (h l).2.1, (h l).2.2.1, (h l).2.2.2⟩, fun h l => ⟨(h l).slot, (h l).write, (h l).fence, (h l).idle⟩⟩

section HoldLane

variable {st : EngineState} {h : Option Head} {x : Slot} {f : Option FenceRec}

/-- A head that is held for neither RECONCILE nor FENCE has neither slot nor record. -/
theorem HoldLane.unused (hl : HoldLane st h x f) (hr : h.bind (·.hold) ≠ some .reconcile)
    (hn : h.bind (·.hold) ≠ some .fence) : x = .empty ∧ f = none :=
  ⟨by_contra fun hx => hr (hl.slot.mpr hx), Option.not_isSome_iff_eq_none.mp fun hf => hn (hl.fence.mpr hf)⟩

theorem HoldLane.noHold (hl : HoldLane st h x f) (hn : h.bind (·.hold) = none) : x = .empty ∧ f = none :=
  hl.unused (by rw [hn]; simp) (by rw [hn]; simp)

theorem HoldLane.free {k : Option Head} (hk : k.bind (·.hold) = none) : HoldLane st k .empty none :=
  { slot := by simp [hk], write := nofun, fence := by simp [hk], idle := fun _ => hk }

/-- A head without a hold may be replaced by another. -/
theorem HoldLane.replace {k : Option Head} (hl : HoldLane st h x f) (hn : h.bind (·.hold) = none)
    (hk : k.bind (·.hold) = none) : HoldLane st k x f := by
  obtain ⟨rfl, rfl⟩ := hl.noHold hn
  exact .free hk

theorem HoldLane.of_fence (hl : HoldLane st h x f) (hf : f.isSome = true) : x = .empty := by
  by_contra hx
  have := hl.slot.mpr hx
  rw [hl.fence.mpr hf] at this
  cases this

theorem HoldLane.of_slot (hl : HoldLane st h x f) (hx : x ≠ .empty) : f = none := by
  cases hf : f with
  | none => rfl
  | some g =>
    have := hl.fence.mpr (by rw [hf]; rfl)
    rw [hl.slot.mpr hx] at this
    cases this

/-- A slot may be replaced by one that holds the same write. -/
theorem HoldLane.reslot {y : Slot} (hl : HoldLane st h x f) (he : y = .empty ↔ x = .empty) (hw : y.write = x.write) :
    HoldLane st h y f :=
  { slot := hl.slot.trans (not_congr he.symm), write := fun hs => hw.trans (hl.write (by rwa [← hw])), fence := hl.fence
    idle := hl.idle }

theorem HoldLane.restate {st' : EngineState} (hl : HoldLane st h x f)
    (hs : st' ≠ .running → st ≠ .running) : HoldLane st' h x f :=
  { slot := hl.slot, write := hl.write, fence := hl.fence, idle := fun hn => hl.idle (hs hn) }

end HoldLane

theorem markSlot_same (x : Slot) : (markSlot x = .empty ↔ x = .empty) ∧ (markSlot x).write = x.write ∧
    ∀ c, (markSlot x).attachedTo c = x.attachedTo c := by
  cases x <;> simp [markSlot, Slot.write, Slot.attachedTo]

theorem detachSlot_same (c : CtxId) (x : Slot) :
    (detachSlot c x = .empty ↔ x = .empty) ∧ (detachSlot c x).write = x.write := by
  cases x with
  | attached k r =>
    by_cases h : k = c <;> simp [detachSlot, Slot.write, h]
  | _ => exact ⟨Iff.rfl, rfl⟩

theorem attachedTo_detachSlot (c k : CtxId) (x : Slot) :
    (detachSlot c x).attachedTo k = (decide (k ≠ c) && x.attachedTo k) := by
  cases x with
  | attached j r =>
    by_cases h : j = c
    · subst h
      by_cases hk : j = k <;> simp [detachSlot, Slot.attachedTo, hk]
    · by_cases hk : j = k
      · subst hk
        simp [detachSlot, Slot.attachedTo, h]
      · simp [detachSlot, Slot.attachedTo, h, hk]
  | _ => simp [detachSlot, Slot.attachedTo]

theorem getSlot_finalise (s : State) (c : CtxId) (f : FinalRec) (l : LaneId) :
    getSlot (finalise s c f) l = detachSlot c (getSlot s l) := by
  simp [finalise, detachSlots, returnList, getSlot, modCtx, setCtx, modCounters]

/-- The lanes' heads, slots and held reads of two states agree but at one lane. -/
structure OneLane (s t : State) (l : LaneId) : Prop where
  state : t.engine.state = s.engine.state
  lanes : ∀ k, l ≠ k → getLane t k = getLane s k
  slots : ∀ k, l ≠ k → getSlot t k = getSlot s k
  fence : ∀ k, l ≠ k → getFence t k = getFence s k

theorem OneLane.holdInv {l : LaneId} (h : OneLane s t l) (hs : HoldInv s)
    (hl : HoldLane s.engine.state (getLane t l).head (getSlot t l) (getFence t l)) : HoldInv t := by
  rw [holdInv_iff] at hs ⊢
  intro k
  rw [h.state]
  by_cases hk : l = k
  · subst hk
    exact hl
  · rw [h.lanes k hk, h.slots k hk, h.fence k hk]
    exact hs k

theorem oneLane_of {l : LaneId} {x : Lane} {y : Slot} {f : Option FenceRec} (he : t.engine.state = s.engine.state)
    (hl : t.lanes = (setLane s l x).lanes) (hs : t.slots = (setSlot s l y).slots)
    (hf : t.fence = (setFence s l f).fence) :
    OneLane s t l ∧ (getLane t l) = x ∧ getSlot t l = y ∧ getFence t l = f :=
  ⟨⟨he, fun k hk => by rw [getLane_congr hl, getLane_setLane_of_ne _ _ _ _ hk],
    fun k hk => by rw [getSlot_congr hs, getSlot_setSlot_of_ne _ _ _ _ hk],
    fun k hk => by rw [getFence_congr hf, getFence_setFence_of_ne _ _ _ _ hk]⟩,
    by rw [getLane_congr hl, getLane_setLane_self], by rw [getSlot_congr hs, getSlot_setSlot_self],
    by rw [getFence_congr hf, getFence_setFence_self]⟩

theorem setSlot_getSlot (s : State) (l : LaneId) : (setSlot s l (getSlot s l)).slots = s.slots := by
  simp [setSlot, getSlot]

theorem setFence_getFence (s : State) (l : LaneId) : (setFence s l (getFence s l)).fence = s.fence := by
  simp [setFence, getFence]

theorem setLane_getLane (s : State) (l : LaneId) : (setLane s l (getLane s l)).lanes = s.lanes := by
  simp [setLane, getLane]

/-- A lane whose head, slot and held read alone change. -/
theorem HoldInv.of_lane {l : LaneId} {x : Lane} {y : Slot} {f : Option FenceRec} (hs : HoldInv s)
    (he : t.engine.state = s.engine.state) (hl : t.lanes = (setLane s l x).lanes) (hsl : t.slots = (setSlot s l y).slots)
    (hf : t.fence = (setFence s l f).fence) (h : HoldLane s.engine.state x.head y f) : HoldInv t := by
  obtain ⟨hone, h1, h2, h3⟩ := oneLane_of he hl hsl hf
  exact hone.holdInv hs (by rw [h1, h2, h3]; exact h)

theorem HoldInv.of_eq (hs : HoldInv s) (he : t.engine.state ≠ .running → s.engine.state ≠ .running)
    (hl : t.lanes = s.lanes) (hsl : t.slots = s.slots) (hf : t.fence = s.fence) : HoldInv t := by
  rw [holdInv_iff] at hs ⊢
  intro l
  rw [getLane_congr hl, getSlot_congr hsl, getFence_congr hf]
  exact (hs l).restate he

theorem awaits_noHold {l : LaneId} {r : Request} (h : awaits s l r) : (getLane s l).head.bind (·.hold) = none := by
  rcases h with h | h <;> simp [h, Head.hold]

theorem finalise_holdInv (c : CtxId) (f : FinalRec) (hs : HoldInv s) : HoldInv (finalise s c f) := by
  rw [holdInv_iff] at hs ⊢
  intro l
  obtain ⟨hengine, hlanes, -, -, -, -, -, -, hfence, -⟩ := finalise_frame s c f
  rw [getSlot_finalise, getLane_congr hlanes, getFence_congr hfence, hengine]
  exact (hs l).reslot (detachSlot_same c _).1 (detachSlot_same c _).2

theorem emptySlot_holdInv {l : LaneId} (hs : HoldInv s) (hne : getSlot s l ≠ .empty) :
    HoldInv (setSlot (clearHead s l) l .empty) := by
  have hlane := (holdInv_iff s).mp hs l
  refine hs.of_lane (l := l) rfl rfl rfl (setFence_getFence s l).symm ?_
  rw [hlane.of_slot hne]
  exact .free rfl

theorem releaseHead_hold (q : Request → HoldReason → Bool) (hq : ∀ r h, q r h = true → h = .priming ∨ h = .conflict)
    {st : EngineState} {x : Lane} {y : Slot} {f : Option FenceRec} (hl : HoldLane st x.head y f) :
    HoldLane st (releaseHead q x).head y f := by
  unfold releaseHead
  split
  next r h hh =>
    split
    next hqr =>
      have hnone : y = .empty ∧ f = none := by
        rcases hq r h hqr with rfl | rfl <;> exact hl.unused (by simp [hh, Head.hold]) (by simp [hh, Head.hold])
      rw [hnone.1, hnone.2]
      exact .free rfl
    next => exact hl
  all_goals exact hl

theorem haltHead_noHold (l : LaneId) : (getLane (haltHead s l) l).head.bind (·.hold) = none := by
  have hgone : ∀ x : State, (getLane (clearHead x l) l).head.bind (·.hold) = none := fun x => by
    rw [getLane_clearHead, if_pos rfl]
    rfl
  unfold haltHead
  split
  case h_1 => exact hgone _
  case h_2 => exact hgone _
  case h_3 => exact hgone _
  case h_4 => exact hgone _
  all_goals simp [*, Head.hold]

theorem getLane_haltHead_of_ne {l k : LaneId} (h : l ≠ k) : getLane (haltHead s l) k = getLane s k := by
  have hgone : ∀ x : State, x.lanes = s.lanes → getLane (clearHead x l) k = getLane s k := fun x hx => by
    rw [getLane_clearHead, if_neg h, getLane_congr hx]
  unfold haltHead
  split
  case h_1 => exact hgone _ (by simp)
  case h_2 => exact hgone _ (by simp)
  case h_3 => exact hgone _ (by simp)
  case h_4 => exact hgone _ (by simp)
  all_goals rfl

theorem haltHeads_noHold {ls : List LaneId} (hn : ls.Nodup) (hm : ∀ l, l ∈ ls) (l : LaneId) :
    (getLane (ls.foldl haltHead s) l).head.bind (·.hold) = none := by
  obtain ⟨x, -, hx⟩ := foldl_own getLane (fun _ _ _ h => getLane_haltHead_of_ne h) hn (hm l) s
  rw [hx]
  exact haltHead_noHold l

theorem enterHalted_holdInv : HoldInv (enterHalted s) := by
  have hlanes : (enterHalted s).lanes = (allLanes.foldl haltHead s).lanes := by simp only [enterHalted]
  have hslots : (enterHalted s).slots = Vector.replicate 16 .empty := by simp only [enterHalted]
  have hfence : (enterHalted s).fence = Vector.replicate 16 none := by simp only [enterHalted]
  rw [holdInv_iff]
  intro l
  have h1 : getSlot (enterHalted s) l = .empty := by simp [getSlot, hslots]
  have h2 : getFence (enterHalted s) l = none := by simp [getFence, hfence]
  rw [h1, h2, getLane_congr hlanes]
  exact .free (haltHeads_noHold nodup_allLanes mem_allLanes l)

theorem acceptOnto_holdInv (r : Request) (hs : HoldInv s) : HoldInv (acceptOnto s r) := by
  have hlane := (holdInv_iff s).mp hs r.lane
  rcases acceptOnto_cases s r with ⟨hh, -, h⟩ | ⟨-, h⟩ | ⟨hh, -, h⟩ | ⟨-, -, h⟩
  · rw [h]
    exact hs.of_lane rfl rfl (setSlot_getSlot s r.lane).symm (setFence_getFence s r.lane).symm
      (hlane.replace (by rw [hh]; rfl) rfl)
  · rw [h]
    exact hs.of_lane rfl rfl (setSlot_getSlot s r.lane).symm (setFence_getFence s r.lane).symm hlane
  · rw [h]
    refine hs.of_lane rfl rfl (setSlot_getSlot s r.lane).symm (setFence_getFence s r.lane).symm
      (hlane.replace (by rw [hh]; rfl) ?_)
    simp only [appendBacklog]
    unfold moveUp
    split
    · rw [hh]; rfl
    · rfl
  · rw [h]
    exact hs.of_eq id rfl rfl rfl

theorem Move.holdInv (hs : HoldInv s) (h : Move ld s t) : HoldInv t := by
  have hlane := (holdInv_iff s).mp hs
  cases h with
  | quiet h => exact hs.of_eq (by rw [h.state]; exact id) h.lanes h.slots h.fence
  | headGone l h =>
    refine hs.of_lane (l := l) rfl rfl (setSlot_getSlot s l).symm (setFence_getFence s l).symm
      ((hlane l).replace ?_ rfl)
    rcases h with h | h
    · exact (hlane l).idle h
    · exact h
  | held l r h hrun ha hh =>
    obtain ⟨hempty, hnone⟩ := (hlane l).noHold (awaits_noHold ha)
    refine hs.of_lane (l := l) rfl rfl (setSlot_getSlot s l).symm (setFence_getFence s l).symm ?_
    rw [hempty, hnone]
    rcases hh with rfl | rfl
    · exact { slot := by simp [Head.hold], write := nofun, fence := by simp [Head.hold], idle := fun h => absurd hrun h }
    · exact { slot := by simp [Head.hold], write := nofun, fence := by simp [Head.hold], idle := fun h => absurd hrun h }
  | heldRead l r g hrun ha =>
    obtain ⟨hempty, hnone⟩ := (hlane l).noHold (awaits_noHold ha)
    refine hs.of_lane (l := l) rfl rfl (setSlot_getSlot s l).symm rfl ?_
    rw [hempty]
    exact { slot := by simp [Head.hold], write := nofun, fence := by simp [Head.hold], idle := fun h => absurd hrun h }
  | readGone l hf hh =>
    refine hs.of_lane (l := l) rfl rfl (setSlot_getSlot s l).symm rfl ?_
    rw [(hlane l).of_fence hf]
    exact .free rfl
  | readAged l g hf =>
    refine hs.of_lane (l := l) rfl (setLane_getLane s l).symm (setSlot_getSlot s l).symm rfl ?_
    exact { slot := (hlane l).slot, write := (hlane l).write, idle := (hlane l).idle
            fence := (hlane l).fence.trans (by simp [hf]) }
  | released q hq =>
    rw [holdInv_iff]
    intro l
    have : getLane (releaseHeads s q) l = releaseHead q (getLane s l) := by simp [releaseHeads, getLane]
    rw [this]
    exact releaseHead_hold q hq (hlane l)
  | accepted r hr => exact acceptOnto_holdInv r hs
  | movedUp l h =>
    refine hs.of_lane (l := l) rfl rfl (setSlot_getSlot s l).symm (setFence_getFence s l).symm
      ((hlane l).replace (by rw [h]; rfl) ?_)
    unfold moveUp
    split
    · rw [h]; rfl
    · rfl
  | unstalled l =>
    unfold endStall
    split
    · exact hs
    · split
      · exact hs.of_lane (l := l) rfl rfl (setSlot_getSlot s l).symm (setFence_getFence s l).symm (hlane l)
      · exact hs
  | attached l r c q hrun ha hc hq =>
    obtain ⟨hempty, hnone⟩ := (hlane l).noHold (awaits_noHold ha)
    refine hs.of_lane (l := l) rfl rfl rfl (setFence_getFence s l).symm ?_
    rw [hnone]
    exact { slot := by simp [Head.hold], write := fun _ => congrArg some hq, fence := by simp [Head.hold]
            idle := fun h => absurd hrun h }
  | noted l =>
    obtain ⟨hempty, hwrite, -⟩ := markSlot_same (getSlot s l)
    exact hs.of_lane (l := l) rfl (setLane_getLane s l).symm rfl (setFence_getFence s l).symm
      ((hlane l).reslot hempty hwrite)
  | reconciled l c q old hx hrun =>
    exact (emptySlot_holdInv hs (by rw [hx]; simp)).of_eq id rfl rfl rfl
  | slotFreed l hx hc => exact emptySlot_holdInv hs hx
  | slotFailed l c q f hx hc hf => exact finalise_holdInv c f (emptySlot_holdInv hs (by rw [hx]; simp))
  | finished c f b hf hc => exact finalise_holdInv c f (hs.of_eq id rfl rfl rfl)
  | cleared h =>
    rw [holdInv_iff]
    intro l
    have hfence : getFence t l = none := Option.not_isSome_iff_eq_none.mp fun hf =>
      (h.fence l hf).2 ((hlane l).fence.mpr (h.fence l hf).1)
    rw [h.slots l, hfence]
    exact .free (h.noHold l)
  | strapped cpb h st l hst => exact hs.of_eq (fun _ => by rw [h]; simp) rfl rfl rfl
  | loads l h => exact hs.of_eq id rfl rfl rfl
  | runs h hl => exact hs.of_eq (fun h => absurd rfl h) rfl rfl rfl
  | halts => exact enterHalted_holdInv
  | freed c b hb hp hc => exact hs.of_eq id rfl rfl rfl
  | inserted c e f hc hef hp => exact hs.of_eq id rfl rfl rfl
  | _ => exact hs.of_eq (by simp) (by simp) (by simp) (by simp)

/-! ### The reconcile counts (R101, R40) -/

theorem attachedCount_eq (s : State) (c : CtxId) :
    attachedCount s c = ∑ l : LaneId, ((getSlot s l).attachedTo c).toNat :=
  length_filter_toList s.slots _

theorem attachedCount_congr (h : ∀ l c, (getSlot t l).attachedTo c = (getSlot s l).attachedTo c) (c : CtxId) :
    attachedCount t c = attachedCount s c := by
  rw [attachedCount_eq, attachedCount_eq]
  exact Finset.sum_congr rfl fun l _ => by rw [h l c]

theorem attachedCount_of_slots (h : t.slots = s.slots) (c : CtxId) : attachedCount t c = attachedCount s c := by
  rw [attachedCount, attachedCount, h]

/-- The number of slots ATTACHED to a context after one slot has changed. -/
theorem attachedCount_change {l : LaneId} {x : Slot} (h : t.slots = (setSlot s l x).slots) (c : CtxId) :
    attachedCount t c + ((getSlot s l).attachedTo c).toNat = attachedCount s c + (x.attachedTo c).toNat := by
  have hslot : ∀ k, getSlot t k = if l = k then x else getSlot s k := fun k => by
    rw [getSlot_congr h, getSlot_setSlot]
  rw [attachedCount_eq, attachedCount_eq]
  have hchange := sum_change_one (f := fun k => ((getSlot s k).attachedTo c).toNat)
    (g := fun k => ((getSlot t k).attachedTo c).toNat) l fun k hk => by simp only [hslot, if_neg (Ne.symm hk)]
  rw [hchange, hslot, if_pos rfl]

theorem attachedCount_finalise (s : State) (c k : CtxId) (f : FinalRec) :
    attachedCount (finalise s c f) k = if k = c then 0 else attachedCount s k := by
  rw [attachedCount_eq, attachedCount_eq]
  split
  next h => exact Finset.sum_eq_zero fun l _ => by rw [getSlot_finalise, attachedTo_detachSlot, h]; simp
  next h => exact Finset.sum_congr rfl fun l _ => by rw [getSlot_finalise, attachedTo_detachSlot]; simp [h]

theorem attachedCount_pos {l : LaneId} {c : CtxId} {q : ReconRec} (h : getSlot s l = .attached c q) :
    0 < attachedCount s c := by
  rw [attachedCount_eq]
  refine Finset.sum_pos' (fun _ _ => Nat.zero_le _) ⟨l, Finset.mem_univ _, ?_⟩
  simp [h, Slot.attachedTo]

/-- What ReconcileInv says of one context. -/
def CountCtx (s : State) (c : CtxId) : Prop :=
  (getCtx s c).reconCount = attachedCount s c ∧ ((getCtx s c).state ≠ .collecting → (getCtx s c).reconCount = 0)

theorem CountCtx.of_eq {c : CtxId} (h : CountCtx s c) (hc : getCtx t c = getCtx s c)
    (ha : attachedCount t c = attachedCount s c) : CountCtx t c := by
  rw [CountCtx, hc, ha]
  exact h

/-- One context changes, but not its reconcile count. -/
theorem CountCtx.of_ctx {c : CtxId} {k : CtxId} {y : Context} (hs : ∀ c, CountCtx s c) (hc : t.ctxs = s.ctxs.set k.val y k.isLt)
    (hsl : t.slots = s.slots) (hr : y.reconCount = (getCtx s k).reconCount)
    (hy : y.state ≠ .collecting → (getCtx s k).state ≠ .collecting) : CountCtx t c := by
  rw [CountCtx, getCtx_of_set hc, attachedCount_of_slots hsl]
  split
  next e =>
    subst e
    rw [hr]
    exact ⟨(hs k).1, fun h => (hs k).2 (hy h)⟩
  next => exact hs c

/-- A context whose reconcile count is 0 changes, and it stays 0. -/
theorem CountCtx.of_zero {c : CtxId} {k : CtxId} {y : Context} (hs : ∀ c, CountCtx s c) (hc : t.ctxs = s.ctxs.set k.val y k.isLt)
    (hsl : t.slots = s.slots) (hr : y.reconCount = (getCtx s k).reconCount) (hk : (getCtx s k).state ≠ .collecting) : CountCtx t c := by
  rw [CountCtx, getCtx_of_set hc, attachedCount_of_slots hsl]
  split
  next e =>
    subst e
    rw [hr]
    exact ⟨(hs k).1, fun _ => (hs k).2 hk⟩
  next => exact hs c

theorem CountCtx.attached {c : CtxId} {l : LaneId} {k : CtxId} {q : ReconRec} (hs : ∀ c, CountCtx s c)
    (hk : (getCtx s k).state = .collecting) (he : getSlot s l = .empty)
    (hc : t.ctxs = (modCtx s k fun cx => { cx with reconCount := cx.reconCount + 1 }).ctxs)
    (hsl : t.slots = (setSlot s l (.attached k q)).slots) : CountCtx t c := by
  have hcount := attachedCount_change hsl c
  simp only [he, Slot.attachedTo, Bool.toNat_false, Nat.add_zero] at hcount
  rw [CountCtx, getCtx_of_set hc, hcount]
  split
  next e =>
    subst e
    simp only [decide_true, Bool.toNat_true]
    exact ⟨by rw [(hs k).1], fun h => absurd hk h⟩
  next e =>
    have hk : decide (k = c) = false := decide_eq_false e
    rw [hk]
    exact hs c

/-- A slot is emptied, and the count of the context that it was ATTACHED to falls with it. -/
theorem CountCtx.emptied {c : CtxId} {l : LaneId} {k : CtxId} {q : ReconRec} (hs : ∀ c, CountCtx s c)
    (hk : getSlot s l = .attached k q) {y : Context} (hc : t.ctxs = s.ctxs.set k.val y k.isLt)
    (hy : y.state = (getCtx s k).state)
    (hr : (getCtx s k).state = .collecting → y.reconCount = (getCtx s k).reconCount - 1)
    (hsl : t.slots = (setSlot s l .empty).slots) : CountCtx t c := by
  have hcol : (getCtx s k).state = .collecting := by
    by_contra hn
    have := attachedCount_pos hk
    have := (hs k).2 hn
    have := (hs k).1
    omega
  have hcount := attachedCount_change hsl c
  simp only [hk, Slot.attachedTo, Bool.toNat_false, Nat.add_zero] at hcount
  rw [CountCtx, getCtx_of_set hc]
  split
  next e =>
    subst e
    simp only [decide_true, Bool.toNat_true] at hcount
    have := (hs k).1
    rw [hr hcol]
    exact ⟨by omega, fun h => absurd (hy.trans hcol) h⟩
  next e =>
    simp only [e, decide_false, Bool.toNat_false, Nat.add_zero] at hcount
    rw [hcount]
    exact hs c

theorem CountCtx.finalised {c : CtxId} {k : CtxId} {f : FinalRec} (hs : ∀ c, c ≠ k → CountCtx s c) :
    CountCtx (finalise s k f) c := by
  rw [CountCtx, attachedCount_finalise, getCtx_of_set (finalise_ctxs s k f)]
  by_cases h : k = c
  · subst h
    simp [finalContext]
  · rw [if_neg h, if_neg (Ne.symm h)]
    exact hs c (Ne.symm h)

/-- A slot that is not ATTACHED to a context is emptied. -/
theorem CountCtx.freed {l : LaneId} {c : CtxId} (hs : CountCtx s c) (hc : t.ctxs = s.ctxs)
    (hsl : t.slots = (setSlot s l .empty).slots) (hk : (getSlot s l).attachedTo c = false) : CountCtx t c := by
  have hcount := attachedCount_change hsl c
  rw [hk] at hcount
  exact hs.of_eq (getCtx_congr hc c) hcount

theorem attachedTo_iff {x : Slot} {c : CtxId} : x.attachedTo c = true ↔ ∃ q, x = .attached c q := by
  cases x <;> simp [Slot.attachedTo]

theorem Move.countCtx (hold : HoldInv s) (hs : ∀ c, CountCtx s c) (h : Move ld s t) (ht : t.engine.state ≠ .halted)
    {c : CtxId} : CountCtx t c := by
  have hsame : t.ctxs = s.ctxs → t.slots = s.slots → CountCtx t c := fun hc hsl =>
    (hs c).of_eq (getCtx_congr hc c) (attachedCount_of_slots hsl c)
  cases h with
  | quiet h => exact hsame h.ctxs h.slots
  | halts => exact absurd rfl ht
  | cleared h =>
    rw [CountCtx, h.ctxs c, attachedCount_eq]
    exact ⟨(Finset.sum_eq_zero fun l _ => by rw [h.slots l]; rfl).symm, fun _ => rfl⟩
  | attached l r k q hrun ha hc hq =>
    have he := ((holdInv_iff s).mp hold l).noHold (awaits_noHold ha)
    exact CountCtx.attached hs hc he.1 rfl rfl
  | noted l =>
    refine (hs c).of_eq rfl (attachedCount_congr (fun k j => ?_) c)
    rw [getSlot_setSlot]
    split
    next e => rw [← e]; exact (markSlot_same _).2.2 j
    next => rfl
  | reconciled l k q old hx hrun =>
    refine CountCtx.emptied hs hx (y := correctedContext (getCtx s k) q old) rfl (correctedContext_frame _ q old).1
      (fun hcol => ?_) rfl
    rw [correctedContext, if_pos hcol]
  | slotFreed l hx hc =>
    refine (hs c).freed rfl rfl (Bool.eq_false_iff.mpr fun ha => ?_)
    obtain ⟨q, hq⟩ := attachedTo_iff.mp ha
    have := attachedCount_pos hq
    have := (hs c).2 (hc c q hq).2
    have := (hs c).1
    omega
  | slotFailed l k q f hx hc hf =>
    refine CountCtx.finalised (fun j hj => (hs j).freed rfl rfl ?_)
    rw [hx]
    simpa [Slot.attachedTo] using Ne.symm hj
  | finished k f b hf hc => exact CountCtx.finalised (fun j _ => (hs j).of_eq rfl rfl)
  | second k f hc hf => exact CountCtx.of_zero hs (k := k) rfl rfl rfl (by rw [hc]; simp)
  | owes k hc => exact CountCtx.of_zero hs (k := k) rfl rfl rfl (isFinal_spec hc).2.2.1
  | ctx k f h => exact CountCtx.of_ctx hs (k := k) rfl rfl h.reconCount (by rw [h.state]; exact id)
  | guarded k n hc ho => exact CountCtx.of_zero hs (k := k) rfl rfl rfl (isFinal_spec hc).2.2.1
  | freed k b hb hp hc => exact CountCtx.of_zero hs (k := k) rfl rfl ((hs k).2 hc).symm hc
  | unbound k hb hp hc => exact CountCtx.of_zero hs (k := k) rfl rfl ((hs k).2 hc).symm hc
  | bound k w bay key len objId hc hw =>
    have hn : (getCtx s k).state ≠ .collecting := by rw [hc]; simp
    exact CountCtx.of_zero hs (k := k) rfl rfl ((hs k).2 hn).symm hn
  | collects k key n hb hc => exact CountCtx.of_zero hs (k := k) rfl rfl rfl (by rw [hc]; simp)
  | inserted k e f hc hef hp => exact CountCtx.of_ctx hs (k := k) rfl rfl rfl id
  | _ => exact hsame (by simp) (by simp)

theorem Move.reconcileInv (hs : ReconcileInv s) (h : Move ld s t) : ReconcileInv t := by
  obtain ⟨hold, hload, hcount⟩ := hs
  refine ⟨h.holdInv hold, h.engineStep.loadOnly hload, fun ht c => h.countCtx hold (hcount ?_) ht⟩
  cases h.engineStep with
  | same h1 h2 h3 => rwa [← h1]
  | leavesLoad h1 h2 h3 =>
    rcases h1 with ⟨-, hne⟩ | hhalt
    · rw [hload hne]
      simp
    · exact absurd hhalt ht
  | loads h1 h2 h3 => rw [hload h1]; simp
  | released h1 h2 h3 => rw [h1]; simp

end Sys2Proof.Machine
end

section
/-! The state after pin reset, and what every step keeps. -/

set_option Elab.async false

namespace Sys2Proof.Machine

open Relation

variable {ld : Bool} {s t : State}

/-! ### The state after pin reset (section 12.5) -/

@[simp] theorem getLane_reset (l : LaneId) : getLane State.reset l = Lane.empty := by simp [getLane, State.reset]
@[simp] theorem getSlot_reset (l : LaneId) : getSlot State.reset l = .empty := by simp [getSlot, State.reset]
@[simp] theorem getFence_reset (l : LaneId) : getFence State.reset l = none := by simp [getFence, State.reset]
@[simp] theorem getWin_reset (w : WinId) : getWin State.reset w = Window.initial := by simp [getWin, State.reset]
@[simp] theorem getCtx_reset (c : CtxId) : getCtx State.reset c = Context.free := by simp [getCtx, State.reset]

theorem shadowInv_reset : ShadowInv State.reset := ⟨rfl, by simp [State.reset]⟩

theorem restInv_reset : RestInv State.reset := ⟨rfl, rfl, fun _ => rfl, fun h => absurd rfl h⟩

theorem queueInv_reset : QueueInv State.reset := by
  refine ⟨⟨fun l r hr => ?_, nofun⟩, fun l => ?_, Nat.zero_le _, fun _ => rfl, fun h => absurd rfl h, by decide⟩
  · rw [getLane_reset] at hr
    cases hr
  · rw [getLane_reset]
    exact Nat.zero_le _

theorem accumulatorInv_reset : AccumulatorInv State.reset := fun c => by
  rw [getCtx_reset]
  exact ⟨P_pos, fun _ => rfl, nofun⟩

theorem poolInv_reset : PoolInv State.reset := by
  have hnone : listedRecords State.reset = 0 := by
    rw [listedRecords_eq]
    exact Finset.sum_eq_zero fun c _ => by rw [extentCount, getCtx_reset]; rfl
  refine ⟨by rw [hnone]; rfl, Nat.le_refl _, fun c => ?_⟩
  rw [getCtx_reset]
  exact ⟨rfl, fun _ => rfl⟩

theorem reconcileInv_reset : ReconcileInv State.reset := by
  refine ⟨(holdInv_iff _).mpr fun l => ?_, fun h => absurd rfl h, fun _ c => ⟨?_, fun _ => ?_⟩⟩
  · rw [getLane_reset, getSlot_reset, getFence_reset]
    exact .free rfl
  · rw [getCtx_reset, attachedCount_eq]
    exact (Finset.sum_eq_zero fun l _ => by rw [getSlot_reset]; rfl).symm
  · rw [getCtx_reset]
    rfl

theorem boundInv_reset : BoundInv State.reset := by
  refine ⟨fun c => ?_, fun w => ⟨?_, fun h => ?_⟩⟩
  · rw [getCtx_reset]
    exact ⟨by simp [Context.free], nofun, fun h => absurd rfl h⟩
  · rw [getWin_reset, boundContexts_eq]
    exact (Finset.sum_eq_zero fun c _ => by rw [getCtx_reset]; rfl).symm
  · rw [getWin_reset] at h
    cases h

theorem bindingInv_reset : BindingInv State.reset := fun c k w bay hc => by
  rw [getCtx_reset] at hc
  cases hc

theorem builderInv_reset : BuilderInv State.reset := ⟨List.nodup_nil, by simp [State.reset], fun _ => rfl⟩

theorem regionInv_reset : RegionInv State.reset := by
  refine ⟨fun w => ?_, fun h => absurd rfl h⟩
  rw [getWin_reset]
  exact ⟨by simp [Window.initial], fun d hd => by cases hd⟩

/-! ### The pending list at the end of the load (R169, R180) -/

/-- At most one sweep is stopped, so the load's list holds one record at most before its own. -/
def loadMeasure (s : State) : Nat := s.report.list.length + s.sweeper.job.toList.length

theorem stopSweepOf_measure (w : WinId) : loadMeasure (stopSweepOf s w) ≤ loadMeasure s := by
  unfold stopSweepOf
  split
  · exact Nat.le_refl _
  next j hj =>
    split
    · have hlist : (handSweeper (discardVisit s) (sweepReport (discardVisit s) .windowChanged j.win)).report.list.length ≤
          s.report.list.length + 1 := by
        unfold handSweeper
        split
        · rw [(build_report _ _).2.2]
          simp
        · simp
      simp only [stopSweepFor, hj, loadMeasure, modSweeper_report]
      simpa using hlist
    · exact Nat.le_refl _

theorem loadWindow_measure (x : State × List Report) (w : WinId) :
    loadMeasure (loadWindow x w).1 ≤ loadMeasure x.1 ∧ (loadWindow x w).2.length ≤ x.2.length + 1 := by
  unfold loadWindow
  dsimp only
  split
  · exact ⟨Nat.le_refl _, Nat.le_succ _⟩
  · refine ⟨?_, by simp⟩
    exact stopSweepOf_measure (s := modWin x.1 w _) w
  · exact ⟨Nat.le_refl _, by simp⟩
  · exact ⟨Nat.le_refl _, by simp⟩

theorem loadWindows_measure (ws : List WinId) (x : State × List Report) :
    loadMeasure (ws.foldl loadWindow x).1 ≤ loadMeasure x.1 ∧ (ws.foldl loadWindow x).2.length ≤ x.2.length + ws.length := by
  induction ws generalizing x with
  | nil => exact ⟨Nat.le_refl _, Nat.le_refl _⟩
  | cons w ws ih =>
    obtain ⟨hm, hl⟩ := loadWindow_measure x w
    obtain ⟨hms, hls⟩ := ih (loadWindow x w)
    rw [List.foldl_cons, List.length_cons]
    exact ⟨hms.trans hm, by omega⟩

theorem finishLoadOver_list_le {ws : List WinId} (hw : ws.length ≤ 16) (h : s.report.list = []) :
    (finishLoadOver ws s).report.list.length ≤ 32 := by
  obtain ⟨hm, hl⟩ := loadWindows_measure ws (takeSettings s, [])
  have hjob : s.sweeper.job.toList.length ≤ 1 := by cases s.sweeper.job <;> simp
  have hstart : loadMeasure (takeSettings s) = s.sweeper.job.toList.length := by
    simp [loadMeasure, takeSettings, h]
  rw [hstart] at hm
  simp only [loadMeasure, List.length_nil] at hm hl
  show (build _ _).report.list.length ≤ 32
  rw [(build_report _ _).2.2, List.length_cons]
  omega

theorem finishLoad_list_le (h : s.report.list = []) : (finishLoad s).report.list.length ≤ 32 := by
  rw [finishLoad_eq]
  exact finishLoadOver_list_le (by simp [allWins]) h

theorem finishLoad_engine (s : State) :
    (finishLoad s).engine.state = .running ∧ (finishLoad s).engine.load = .idle := by
  rw [finishLoad_eq]
  exact ⟨rfl, rfl⟩

theorem loaded_queueInv {x b : State} (hs : QueueInv s) (hc : SameCore s x) (hl : s.engine.load ≠ .idle) :
    QueueInv (settle b (finishLoad x)) := by
  obtain ⟨hlane, ⟨hlen, hempty, hload⟩, hring⟩ := (queueInv_iff s).mp hs
  have hxl : x.engine.load ≠ .idle := by rw [hc.load]; exact hl
  have hnone : x.report.list = [] := by rw [hc.list]; exact hempty (.inr (hload hl))
  have hmoves : Moves true s (finishLoad x) := hc.moves.trans (finishLoad_moves hxl)
  have hend : Moves true s (settle b (finishLoad x)) := hmoves.trans (settle_moves b)
  obtain ⟨hrun, hidle⟩ := finishLoad_engine x
  refine (queueInv_iff _).mpr ⟨Moves.keep Move.laneInv hend hlane, ?_, Moves.keep Move.ringInv hend hring⟩
  refine Moves.keep Move.listInv (settle_moves b) ⟨finishLoad_list_le hnone, fun h => ?_, fun h => absurd hidle h⟩
  rw [hrun] at h
  simp at h

theorem step_queueInv (hs : QueueInv s) (h : step s = .next t) : QueueInv t := by
  cases step_does h with
  | moves hm =>
    obtain ⟨hlane, hlist, hring⟩ := (queueInv_iff s).mp hs
    exact (queueInv_iff t).mpr ⟨Moves.keep Move.laneInv hm hlane, Moves.keep Move.listInv hm hlist,
      Moves.keep Move.ringInv hm hring⟩
  | reset hc _ _ =>
    obtain ⟨hlane, hlist, hring⟩ := (queueInv_iff _).mp queueInv_reset
    have hm : Move false State.reset t := .quiet hc
    exact (queueInv_iff t).mpr ⟨hm.laneInv hlane, hm.listInv hlist, hm.ringInv hring⟩
  | loaded x b hc hl _ => exact loaded_queueInv hs hc hl

end Sys2Proof.Machine

open Sys2Proof Sys2Proof.Machine

/-- Settles O1. -/
theorem stepRunsFrontCommand : Obligations.StepRunsFrontCommand := fun _ _ _ => rfl

/-- Settles O49: by induction on the list, an insertion keeps what lies before the range, widens the range by each extent
that meets it, and stops at the first that lies beyond. -/
theorem insertionKeepsTheForm : Obligations.InsertionKeepsTheForm := fun _ _ _ hwf hf => insertRange_spec hwf hf

/-- Settles O50. -/
theorem resetHasEveryInvariant : Obligations.ResetHasEveryInvariant :=
  ⟨shadowInv_reset, restInv_reset, queueInv_reset, accumulatorInv_reset, poolInv_reset, reconcileInv_reset,
    boundInv_reset, bindingInv_reset, builderInv_reset, regionInv_reset⟩

/-- Settles O51: only a copy of bytes changes the shadow, and it keeps the form. -/
theorem stepKeepsTheShadow : Obligations.StepKeepsTheShadow := fun _ _ hs h => step_keeps Move.shadowInv shadowInv_reset hs h

/-- Settles O53: move by move, but for the end of the load, which fills an empty list with at most 18 records. -/
theorem stepKeepsQueueBounds : Obligations.StepKeepsQueueBounds := fun _ _ hs h => step_queueInv hs h

/-- Settles O54. -/
theorem stepKeepsAccumulators : Obligations.StepKeepsAccumulators := fun _ _ hs h =>
  step_keeps Move.accumulatorInv accumulatorInv_reset hs h

/-- Settles O55: an insertion takes from the pool what it adds to a list, and an ended transfer's list goes back. -/
theorem stepKeepsTheExtentPool : Obligations.StepKeepsTheExtentPool := fun _ _ hs h =>
  step_keeps Move.poolInv poolInv_reset hs h

/-- Settles O56. -/
theorem stepKeepsReconcileCounts : Obligations.StepKeepsReconcileCounts := fun _ _ hs h =>
  step_keeps Move.reconcileInv reconcileInv_reset hs h

/-- Settles O57. -/
theorem stepKeepsBoundCounts : Obligations.StepKeepsBoundCounts := fun _ _ hs h =>
  step_keeps Move.boundInv boundInv_reset hs h

/-- Settles O58. -/
theorem stepKeepsTheBindingMap : Obligations.StepKeepsTheBindingMap := fun _ _ hs h =>
  step_keeps Move.bindingInv bindingInv_reset hs h

/-- Settles O59. -/
theorem stepKeepsTheBuildQueue : Obligations.StepKeepsTheBuildQueue := fun _ _ hs h =>
  step_keeps Move.builderInv builderInv_reset hs h

/-- Settles O60: only a definition found apart from the others enters a window's entry. -/
theorem stepKeepsRegionsApart : Obligations.StepKeepsRegionsApart := fun _ _ hs h =>
  step_keeps Move.regionInv regionInv_reset hs h
end

section
/-! What every step keeps of the pins and of the pending list (R173, R171). -/

set_option Elab.async false

namespace Sys2Proof.Machine

open Relation

variable {ld : Bool} {s t : State}

/-! ### FAULT_N and the load (section 12.6, R180) -/

/-- FAULT_N stands as the engine's state says, and the load is under way only while LOADING. -/
def FaultInv (s : State) : Prop := s.engine.faultN = decide (s.engine.state ≠ .halted) ∧ LoadOnlyWhileLoading s

theorem FaultInv.congr (hf : t.engine.faultN = s.engine.faultN) (hst : t.engine.state = s.engine.state)
    (hl : LoadOnlyWhileLoading t) (hs : FaultInv s) : FaultInv t := ⟨by rw [hf, hst]; exact hs.1, hl⟩

theorem Move.faultInv (hs : FaultInv s) (h : Move ld s t) : FaultInv t := by
  have hload := h.engineStep.loadOnly hs.2
  have hsame := fun (he : t.engine = s.engine) => hs.congr (by rw [he]) (by rw [he]) hload
  cases h with
  | quiet h => exact hs.congr h.faultN h.state hload
  | cleared h => exact hsame h.engine
  | halts => exact ⟨by rw [enterHalted_engine]; rfl, hload⟩
  | strapped cpb hr st l hst =>
    refine ⟨?_, hload⟩
    have hfault : s.engine.faultN = true := by rw [hs.1, hr]; rfl
    rcases hst with ⟨rfl, -⟩ | rfl <;> exact hfault
  | loads l h => exact FaultInv.congr (s := s) rfl rfl hload hs
  | runs h hl =>
    have hfault : s.engine.faultN = true := by rw [hs.1, hs.2 h]; rfl
    exact ⟨hfault, hload⟩
  | _ => exact hsame (by simp)

/-! ### ATTN and the pending list (R173, R171) -/

/-- ATTN stands as the ring says, and no record that may leave the pending list is still in it. -/
def RingRests (s : State) : Prop := s.engine.attn = attnLevel s ∧ (mayLeave s = true → s.report.list = [])

theorem restInv_iff (s : State) : RestInv s ↔ RingRests s ∧ FaultInv s := by
  simp only [RestInv, RingRests, FaultInv]
  tauto

/-- RingRests speaks of these fields alone. -/
def ringView (s : State) : (EngineState × Bool) × List Record × Option Record × Word32 × Word32 × Bool :=
  ((s.engine.state, s.engine.attn), s.report.list, s.report.inFlight, s.report.producer, s.report.consumer,
    s.report.attnEnable)

theorem RingRests.congr (h : ringView t = ringView s) (hs : RingRests s) : RingRests t := by
  simp only [ringView, Prod.mk.injEq] at h
  obtain ⟨⟨h1, h2⟩, h3, h4, h5, h6, h7⟩ := h
  simp only [RingRests, attnLevel, mayLeave, isRunning, unconsumed, h1, h2, h3, h4, h5, h6, h7]
  exact hs

/-- Outside RUNNING the ring rests where ATTN is low. -/
theorem RingRests.of_notRunning (hr : s.engine.state ≠ .running) (ha : s.engine.attn = false) : RingRests s := by
  have hn : isRunning s = false := decide_eq_false hr
  exact ⟨by rw [ha, attnLevel, hn]; rfl, fun h => by rw [mayLeave, hn] at h; cases h⟩

theorem RingRests.attn_low (hs : RingRests s) (hr : s.engine.state ≠ .running) : s.engine.attn = false := by
  rw [hs.1, attnLevel, show isRunning s = false from decide_eq_false hr]
  rfl

@[simp] theorem reportRest_grantItem (s : State) (i : OwedItem) : reportRest (grantItem s i) = reportRest s := by
  cases i with
  | applied w => exact reportRest_build s _
  | fenced w => exact reportRest_build s _
  | sweeper r => exact reportRest_build s _
  | orderDone r => exact reportRest_build s _
  | transfer c =>
    simp only [grantItem]
    cases owedFinal (getCtx s c) with
    | none => rfl
    | some f => exact reportRest_build s _

@[simp] theorem reportRest_grantRoom (n : Nat) (s : State) : reportRest (grantRoom n s) = reportRest s := by
  induction n generalizing s with
  | zero => rfl
  | succ n ih =>
    unfold grantRoom
    split
    · rfl
    · split
      · rw [ih, reportRest_grantItem]
      · rfl

theorem inFlight_of_reportRest (h : reportRest t = reportRest s) : t.report.inFlight = s.report.inFlight := by
  have hflight : (reportRest t).inFlight = (reportRest s).inFlight := by rw [h]
  exact hflight

theorem drain_spec (s : State) : mayLeave (drain s) = true → (drain s).report.list = [] := by
  unfold drain
  split
  next hl => exact fun _ => hl
  next r rest hl =>
    split
    next hm =>
      have hflight := inFlight_of_reportRest (reportRest_grantRoom (Config.pendingMax + 1)
        (enqueue3 (modReport s fun u => { u with list := rest, inFlight := some r }) [recordWrite s r]))
      intro h
      simp only [mayLeave, Bool.and_eq_true, hflight] at h
      exact absurd h.1.2 (by simp)
    next hm => exact fun h => absurd h hm

/-- Every event that is closed leaves the ring at rest. -/
theorem ringRests_settle (b x : State) : RingRests (settle b x) := by
  have hclosed : RingRests (evalAttn (drain x)) := ⟨rfl, drain_spec x⟩
  exact hclosed.congr (by simp [settle, ringView])

/-! ### Every command leaves the ring at rest -/

/-- A command has closed its event, or has changed nothing that RingRests speaks of. -/
inductive Rested (s : State) : State → Prop
  | same {t : State} (h : ringView t = ringView s) : Rested s t
  | settled (b x : State) : Rested s (settle b x)
  | after {t : State} (b x : State) (h : ringView t = ringView (settle b x)) : Rested s t

theorem Rested.rests (h : Rested s t) (hs : RingRests s) : RingRests t := by
  cases h with
  | same h => exact hs.congr h
  | settled b x => exact ringRests_settle b x
  | after b x h => exact (ringRests_settle b x).congr h

theorem takeCoded_rested {q : Byte → Bool} {f : Order → State → State × Done} (h : takeCoded q f s = .next t) :
    Rested s t := by
  unfold takeCoded at h
  repeat' split at h
  all_goals cases h
  · exact .settled _ _
  all_goals exact .same rfl

theorem execOrderExamination_rested (h : execOrderExamination s = .next t) : Rested s t := by
  unfold execOrderExamination at h
  repeat' split at h
  all_goals cases h
  · exact .settled _ _
  all_goals exact .same rfl

theorem execConsumerValueWritten_rested (h : execConsumerValueWritten s = .next t) : Rested s t := by
  unfold execConsumerValueWritten at h
  split at h
  · dsimp only at h
    split at h <;> cases h
    · exact .settled _ _
    · exact .same rfl
  · cases h
    exact .same rfl

theorem ringView_acceptOnto (r : Request) : ringView (acceptOnto s r) = ringView s := by simp [ringView]

theorem execRequestArrival_rested {r : Request} (h : execRequestArrival r s = .next t) : Rested s t := by
  unfold execRequestArrival at h
  repeat' split at h
  all_goals cases h
  case h_3 =>
    unfold acceptRunning
    split
    · split
      · exact .same (ringView_acceptOnto r)
      · exact .after _ _ (ringView_acceptOnto r)
    all_goals exact .same (ringView_acceptOnto r)
  case h_4 =>
    unfold acceptPassing
    split
    · split
      · exact .same (ringView_acceptOnto r)
      · exact .same ((ringView_acceptOnto r).trans (by simp [ringView]))
    · exact .same (ringView_acceptOnto r)
  case h_5 =>
    unfold acceptPassing
    split
    · split
      · exact .same (ringView_acceptOnto r)
      · exact .same ((ringView_acceptOnto r).trans (by simp [ringView]))
    · exact .same (ringView_acceptOnto r)
  all_goals exact .same rfl

theorem headTreated_rested (l : LaneId) (r : Request) : Rested s (headTreated s l r) := by
  unfold headTreated
  split
  · exact .settled _ _
  all_goals exact .same (by simp [ringView])

theorem execHeadEvent_rested {l : LaneId} (h : execHeadEvent l s = .next t) : Rested s t := by
  unfold execHeadEvent at h
  dsimp only at h
  split at h
  · split at h <;> cases h
    · exact .same rfl
    · exact .same (by simp [ringView])
  · cases h; exact headTreated_rested _ _
  · cases h; exact headTreated_rested _ _
  · cases h; exact .same rfl

theorem execResponseRelay_rested {id : Nat} {resp : MemResp} (h : execResponseRelay id resp s = .next t) : Rested s t := by
  unfold execResponseRelay at h
  split at h
  · split at h
    · dsimp only at h
      split at h
      · cases h; exact .same rfl
      · split at h <;> cases h
        · exact .settled _ _
        · exact .same rfl
    · cases h
  · cases h; exact .same rfl

theorem execMemoryIssue_rested (h : execMemoryIssue s = .next t) : Rested s t := by
  unfold execMemoryIssue at h
  split at h <;> cases h
  · exact .same rfl
  next r p _ =>
    refine .same ?_
    cases r.owner <;> rfl

theorem execOrphanResponse_rested {id : Nat} {resp : MemResp} (h : execOrphanResponse id resp s = .next t) :
    Rested s t := by
  unfold execOrphanResponse at h
  split at h <;> cases h <;> exact .same rfl

theorem execMicrosecondStep_rested (h : execMicrosecondStep s = .next t) : Rested s t := by
  unfold execMicrosecondStep at h
  split at h <;> cases h <;> exact .same rfl

theorem execTick_rested (h : execTick s = .next t) : Rested s t := by
  rcases execTick_cases h with ⟨-, -, -, rfl⟩ | rfl <;> exact .same rfl

theorem ageIdle_rested (c : CtxId) : Rested s (ageIdle (ageTaken s c) c) := by
  rcases ageIdle_cases (ageTaken s c) c with ⟨n, -, h⟩ | ⟨n, -, -, h⟩ | ⟨-, h⟩ <;> rw [h]
  · exact .same rfl
  · exact .settled _ _
  · exact .same rfl

theorem execIdleCountEnd_rested {c : CtxId} (h : execIdleCountEnd c s = .next t) : Rested s t := by
  unfold execIdleCountEnd at h
  split at h
  · split at h
    case h_1 => cases h; exact ageIdle_rested c
    all_goals cases h; exact .same rfl
  · cases h; exact .same rfl

theorem execGuardEnd_rested {c : CtxId} (h : execGuardEnd c s = .next t) : Rested s t := by
  unfold execGuardEnd at h
  split at h <;> cases h
  · rcases ageGuard_cases (ageTaken s c) c with ⟨n, -, h⟩ | ⟨n, -, -, h⟩ | ⟨-, h⟩ <;> rw [h]
    · exact .same rfl
    · exact .settled _ _
    · exact .same rfl
  · exact .same rfl

theorem execHoldCountEnd_rested {l : LaneId} (h : execHoldCountEnd l s = .next t) : Rested s t := by
  unfold execHoldCountEnd at h
  repeat' split at h
  all_goals cases h
  · unfold ageRead
    split <;> exact .same rfl
  all_goals exact .same rfl

theorem execSettingsAdopt_rested (h : execSettingsAdopt s = .next t) : Rested s t := by
  unfold execSettingsAdopt at h
  split at h <;> cases h
  · exact .settled _ _
  · exact .same rfl

theorem ringView_requestSnapshot : ringView (requestSnapshot s) = ringView s := by
  unfold requestSnapshot
  split <;> rfl

theorem execSnapshotCountdownEnd_rested (h : execSnapshotCountdownEnd s = .next t) : Rested s t := by
  unfold execSnapshotCountdownEnd at h
  split at h <;> cases h
  · refine .same ?_
    rcases ageCountdown_cases (modTime s fun t => { t with tickOpen := false }) with
      ⟨n, -, h⟩ | ⟨n, -, -, h⟩ | ⟨-, h⟩ <;> rw [h]
    · rfl
    · exact ringView_requestSnapshot
    · rfl
  · exact .same rfl

theorem execStatusBlockWriteDone_rested {id : Nat} (h : execStatusBlockWriteDone id s = .next t) : Rested s t := by
  unfold execStatusBlockWriteDone at h
  split at h <;> cases h
  · refine .same ?_
    unfold nextBlock
    repeat' split
    all_goals rfl
  · exact .same rfl

theorem execRecordWriteDone_rested {id : Nat} (h : execRecordWriteDone id s = .next t) : Rested s t := by
  unfold execRecordWriteDone at h
  repeat' split at h
  all_goals cases h
  · exact .settled _ _
  all_goals exact .same rfl

theorem execVisitBegin_rested (h : execVisitBegin s = .next t) : Rested s t := by
  unfold execVisitBegin at h
  split at h <;> cases h
  · exact .settled _ _
  · exact .same rfl

theorem execRecheckReadDone_rested {id : Nat} {data : List Byte} (h : execRecheckReadDone id data s = .next t) :
    Rested s t := by
  unfold execRecheckReadDone at h
  repeat' split at h
  all_goals cases h
  · exact .same rfl
  · exact .settled _ _
  · exact .same rfl

theorem execRecheckReadError_rested {id : Nat} (h : execRecheckReadError id s = .next t) : Rested s t := by
  unfold execRecheckReadError at h
  repeat' split at h
  all_goals cases h
  · exact .same rfl
  · exact .settled _ _
  · exact .same rfl

theorem execLadderComplete_rested (h : execLadderComplete s = .next t) : Rested s t := by
  unfold execLadderComplete at h
  split at h
  · cases h; exact .same rfl
  · dsimp only at h
    split at h <;> cases h <;> exact .same rfl

theorem execReconcileReadReturn_rested {id : Nat} {data : List Byte} (h : execReconcileReadReturn id data s = .next t) :
    Rested s t := by
  unfold execReconcileReadReturn at h
  split at h
  · split at h
    · split at h
      · cases h; exact .same rfl
      · split at h <;> cases h
        exact .settled _ _
    all_goals cases h; exact .same rfl
  · cases h; exact .same rfl

theorem execReconcileReadError_rested {id : Nat} (h : execReconcileReadError id s = .next t) : Rested s t := by
  unfold execReconcileReadError at h
  split at h
  · split at h
    · split at h <;> cases h
      · exact .same rfl
      · exact .settled _ _
    all_goals cases h; exact .same rfl
  · cases h; exact .same rfl

theorem execDetachedReadReturn_rested {id : Nat} {resp : MemResp} (h : execDetachedReadReturn id resp s = .next t) :
    Rested s t := by
  unfold execDetachedReadReturn at h
  split at h
  · split at h <;> cases h <;> exact .same rfl
  · cases h; exact .same rfl

/-! ### The commands that change the engine's state -/

theorem ringRests_enterHalted : RingRests (enterHalted s) :=
  .of_notRunning (by rw [enterHalted_engine]; simp) (by rw [enterHalted_engine])

theorem execResetRelease_rests {b : Bool} {cpb : BitVec 8} (hs : RingRests s) (h : execResetRelease b cpb s = .next t) :
    RingRests t := by
  unfold execResetRelease at h
  split at h
  next hr =>
    have hlow := hs.attn_low (by rw [hr]; simp)
    split at h <;> cases h
    · exact .of_notRunning (by simp) hlow
    · exact .of_notRunning (by simp [enqueue3]) hlow
  next => cases h; exact hs

theorem execLoadReadDone_rests {id : Nat} {data : List Byte} (hs : RestInv s) (h : execLoadReadDone id data s = .next t) :
    RingRests t := by
  obtain ⟨hring, -, hload⟩ := (restInv_iff s).mp hs
  unfold execLoadReadDone at h
  split at h
  next hl _ =>
    have hloading : s.engine.state = .loading := hload (loading_ne_idle hl)
    have hne : s.engine.state ≠ .running := by rw [hloading]; simp
    have hlow := hring.attn_low hne
    split at h
    · dsimp only at h
      split at h <;> cases h
      · exact .of_notRunning hne hlow
      · exact .of_notRunning hne hlow
    · cases h
  next => cases h; exact hring

theorem execLoadClearDone_rests {id : Nat} (hs : RestInv s) (h : execLoadClearDone id s = .next t) : RingRests t := by
  obtain ⟨hring, -, hload⟩ := (restInv_iff s).mp hs
  unfold execLoadClearDone at h
  split at h
  next hl _ =>
    have hloading : s.engine.state = .loading := hload (clearing_ne_idle hl)
    have hne : s.engine.state ≠ .running := by rw [hloading]; simp
    dsimp only at h
    split at h <;> cases h
    · exact ringRests_settle _ _
    · exact .of_notRunning hne (hring.attn_low hne)
  next => cases h; exact hring

theorem execLoadError_rests {id : Nat} (hs : RingRests s) (h : execLoadError id s = .next t) : RingRests t := by
  unfold execLoadError at h
  repeat' split at h
  all_goals cases h
  · exact ringRests_enterHalted
  · exact hs
  · exact ringRests_enterHalted
  · exact hs
  · exact hs

theorem execEngineWriteError_rests {id : Nat} (hs : RingRests s) (h : execEngineWriteError id s = .next t) :
    RingRests t := by
  unfold execEngineWriteError at h
  split at h <;> cases h
  · exact ringRests_enterHalted
  · exact ringRests_enterHalted
  · exact ringRests_enterHalted
  · exact hs

theorem exec_rests {i : Instr} (hs : RestInv s) (h : exec i s = .next t) : RingRests t := by
  have hring := ((restInv_iff s).mp hs).1
  cases i with
  | pinReset => cases h; exact ((restInv_iff _).mp restInv_reset).1.congr rfl
  | resetRelease bypass cpb => exact execResetRelease_rests hring h
  | loadReadDone id data => exact execLoadReadDone_rests hs h
  | loadClearDone id => exact execLoadClearDone_rests hs h
  | loadError id => exact execLoadError_rests hring h
  | engineWriteError id => exact execEngineWriteError_rests hring h
  | requestArrival r => exact (execRequestArrival_rested h).rests hring
  | headEvent lane => exact (execHeadEvent_rested h).rests hring
  | consumerValueWritten => exact (execConsumerValueWritten_rested h).rests hring
  | orderExamination => exact (execOrderExamination_rested h).rests hring
  | setWindow => exact (takeCoded_rested (q := fun c => decide (c = 1)) (f := orderSetWindow) h).rests hring
  | release => exact (takeCoded_rested (q := fun c => decide (c = 2)) (f := orderRelease) h).rests hring
  | openTransfer => exact (takeCoded_rested (q := fun c => decide (c = 3)) (f := orderOpen) h).rests hring
  | closeTransfer => exact (takeCoded_rested (q := fun c => decide (c = 4)) (f := orderClose) h).rests hring
  | retire => exact (takeCoded_rested (q := fun c => decide (c = 5)) (f := orderRetire) h).rests hring
  | clearAll => exact (takeCoded_rested (q := fun c => decide (c = 6)) (f := orderClearAll) h).rests hring
  | recheck => exact (takeCoded_rested (q := fun c => decide (c = 7)) (f := orderRecheck) h).rests hring
  | stepSweep => exact (takeCoded_rested (q := fun c => decide (c = 8)) (f := orderStep) h).rests hring
  | stopSweep => exact (takeCoded_rested (q := fun c => decide (c = 9)) (f := orderStopSweep) h).rests hring
  | snapshot => exact (takeCoded_rested (q := fun c => decide (c = 10)) (f := orderSnapshot) h).rests hring
  | setEngine => exact (takeCoded_rested (q := fun c => decide (c = 11)) (f := orderSetEngine) h).rests hring
  | unknownOrder => exact (takeCoded_rested (q := fun c => decide (11 < c.toNat)) (f := orderUnknown) h).rests hring
  | ladderComplete => exact (execLadderComplete_rested h).rests hring
  | reconcileReadReturn id data => exact (execReconcileReadReturn_rested h).rests hring
  | reconcileReadError id => exact (execReconcileReadError_rested h).rests hring
  | detachedReadReturn id resp => exact (execDetachedReadReturn_rested (resp := resp) h).rests hring
  | responseRelay id resp => exact (execResponseRelay_rested h).rests hring
  | memoryIssue => exact (execMemoryIssue_rested h).rests hring
  | orphanResponse id resp => exact (execOrphanResponse_rested (resp := resp) h).rests hring
  | tick => exact (execTick_rested h).rests hring
  | idleCountEnd ctx => exact (execIdleCountEnd_rested h).rests hring
  | guardEnd ctx => exact (execGuardEnd_rested h).rests hring
  | holdCountEnd lane => exact (execHoldCountEnd_rested h).rests hring
  | settingsAdopt => exact (execSettingsAdopt_rested h).rests hring
  | snapshotCountdownEnd => exact (execSnapshotCountdownEnd_rested h).rests hring
  | statusBlockWriteDone id => exact (execStatusBlockWriteDone_rested h).rests hring
  | recordWriteDone id => exact (execRecordWriteDone_rested h).rests hring
  | visitBegin => exact (execVisitBegin_rested h).rests hring
  | recheckReadDone id data => exact (execRecheckReadDone_rested h).rests hring
  | recheckReadError id => exact (execRecheckReadError_rested h).rests hring
  | microsecondStep => exact (execMicrosecondStep_rested h).rests hring

theorem step_restInv (hs : RestInv s) (h : step s = .next t) : RestInv t := by
  refine (restInv_iff t).mpr ⟨?_, step_keeps Move.faultInv ((restInv_iff _).mp restInv_reset).2
    ((restInv_iff s).mp hs).2 h⟩
  unfold step at h
  split at h
  · cases h
    exact ((restInv_iff s).mp hs).1.congr rfl
  next c rest _ => exact exec_rests (s := { s with pending := rest }) hs h

end Sys2Proof.Machine

open Sys2Proof Sys2Proof.Machine

/-- Settles O52: each command closes its event, changes nothing of the ring, or leaves the engine out of RUNNING. -/
theorem stepKeepsPinsAndDrain : Obligations.StepKeepsPinsAndDrain := fun _ _ hs h => step_restInv hs h
end

section
/-! The commands of the Time Base, the pin, the links and the ladder builder, one by one. -/

set_option Elab.async false

namespace Sys2Proof.Machine

variable {s t : State}

/-! ### A closed event that has handed over no record (R165, R171, R173) -/

/-- What a window owes. -/
def Window.owes (x : Window) : Bool × Bool := (x.owedApplied, x.owedFenced)

theorem anyOwed_eq_false_iff (s : State) : anyOwed s = false ↔
    (∀ w, (getWin s w).owes = (false, false)) ∧ (∀ c, (getCtx s c).owed = 0) ∧ s.sweeper.waiting = [] := by
  have hwin : owedWindow s = false ↔ ∀ w, (getWin s w).owes = (false, false) := by
    simp only [owedWindow, List.any_eq_false, Window.owes, Prod.mk.injEq, getWin]
    constructor
    · intro h w
      simpa using h _ (Vector.mem_toList_iff.mpr (Vector.getElem_mem w.isLt))
    · intro h x hx
      obtain ⟨i, hi, rfl⟩ := Vector.mem_iff_getElem.mp (Vector.mem_toList_iff.mp hx)
      simpa using h ⟨i, hi⟩
  have hctx : owedTransfer s = false ↔ ∀ c, (getCtx s c).owed = 0 := by
    simp only [owedTransfer, List.any_eq_false, getCtx]
    constructor
    · intro h c
      simpa using h _ (Vector.mem_toList_iff.mpr (Vector.getElem_mem c.isLt))
    · intro h x hx
      obtain ⟨i, hi, rfl⟩ := Vector.mem_iff_getElem.mp (Vector.mem_toList_iff.mp hx)
      simpa using h ⟨i, hi⟩
  simp only [anyOwed, Bool.or_eq_false_iff, hwin, hctx]
  simp [and_assoc]

/-- The same records are owed. -/
structure SameOwed (s t : State) : Prop where
  win : ∀ w, (getWin t w).owes = (getWin s w).owes
  ctx : ∀ c, (getCtx t c).owed = (getCtx s c).owed
  waiting : t.sweeper.waiting = s.sweeper.waiting

theorem SameOwed.anyOwed (h : SameOwed s t) : anyOwed t = anyOwed s := by
  rw [Bool.eq_iff_iff, ← not_iff_not]
  simp only [Bool.not_eq_true, anyOwed_eq_false_iff, h.win, h.ctx, h.waiting]

theorem owes_of_set {w : WinId} {x : Window} (h : t.windows = s.windows.set w.val x w.isLt)
    (hx : x.owes = (getWin s w).owes) (v : WinId) : (getWin t v).owes = (getWin s v).owes := by
  have hv : getWin t v = if w = v then x else getWin s v :=
    (getWin_congr (s := setWin s w x) h v).trans (getWin_setWin s w v x)
  rw [hv]
  split
  next he => rw [← he, hx]
  next => rfl

theorem owed_of_set {c : CtxId} {x : Context} (h : t.ctxs = s.ctxs.set c.val x c.isLt)
    (hx : x.owed = (getCtx s c).owed) (k : CtxId) : (getCtx t k).owed = (getCtx s k).owed := by
  rw [getCtx_of_set h]
  split
  next he => rw [← he, hx]
  next => rfl

/-- Nothing that the close of an event looks at has changed. -/
structure Quiet (s t : State) : Prop where
  view : ringView t = ringView s
  owed : SameOwed s t
  waitingDone : t.orders.waitingDone = s.orders.waitingDone

theorem Quiet.of_eq (hv : ringView t = ringView s) (hw : t.windows = s.windows) (hc : t.ctxs = s.ctxs)
    (hx : t.sweeper.waiting = s.sweeper.waiting) (hd : t.orders.waitingDone = s.orders.waitingDone) : Quiet s t :=
  ⟨hv, ⟨fun w => by rw [getWin_congr hw], fun c => by rw [getCtx_congr hc], hx⟩, hd⟩

theorem Quiet.able (h : Quiet s t) : able t = able s := by
  have hv := h.view
  simp only [ringView, Prod.mk.injEq] at hv
  obtain ⟨⟨hst, -⟩, hlist, -⟩ := hv
  simp only [Machine.able, isRunning, hst, h.waitingDone, hlist, h.owed.anyOwed]

/-- R165, R171, R173: an event that has changed nothing of the Report Unit closes with nothing more. -/
theorem Quiet.settle (h : Quiet s t) (hs : RestInv s) : settle s t = t := by
  have hrest : RingRests t := ((restInv_iff s).mp hs).1.congr h.view
  exact settle_of_quiet hrest.2 hrest.1 fun ha => by rw [← h.able, ha]

/-! ### The Time Base (R141, R142) -/

theorem raiseMicros_below {t : TimeBase} (h : t.micros + 1 < t.interval) :
    raiseMicros t = { t with micros := t.micros + 1, prescaler := 0 } := if_neg (Nat.not_le.mpr h)

theorem raiseMicros_reached {t : TimeBase} (h : t.interval ≤ t.micros + 1) :
    raiseMicros t = { t with micros := 0, prescaler := 0, ticksDue := t.ticksDue + 1 } := if_pos h

theorem execMicrosecondStep_running (h : s.time.running = true) :
    execMicrosecondStep s = .next (modTime s raiseMicros) := if_pos h

theorem execMicrosecondStep_stopped (h : s.time.running = false) : execMicrosecondStep s = .next s :=
  if_neg (by rw [h]; simp)

theorem step_idle (h : s.pending = []) : step s = .next { s with time := refclkPeriod s.time } := by
  unfold step
  rw [h]

theorem refclkPeriod_stopped {t : TimeBase} (h : t.running = false) : refclkPeriod t = t := if_neg (by rw [h]; simp)

theorem refclkPeriod_waits {t : TimeBase} (h : t.running = true) (hp : t.prescaler < 99) :
    refclkPeriod t = { t with prescaler := t.prescaler + 1 } := by
  rw [refclkPeriod, if_pos h, if_neg (by simp only [Config.refclkPerMicrosecond]; omega)]

theorem refclkPeriod_runsOut {t : TimeBase} (h : t.running = true) (hp : t.prescaler = 99) :
    refclkPeriod t = raiseMicros t := by
  rw [refclkPeriod, if_pos h, if_pos (by simp only [Config.refclkPerMicrosecond]; omega)]

/-! ### The link and the lanes (R116, R119, R129, R130) -/

theorem forwardHead_eq (s : State) (l : LaneId) (r : Request) (x : Option (CtxId × Word32)) :
    forwardHead s l r x = { s with lanes := headGone s l, port := portWith s (forwardedReq r x) } := rfl

theorem execRequestArrival_running {r : Request} (hr : r.wf = true) (hs : s.stall = none)
    (hrun : s.engine.state = .running) : execRequestArrival r s = .next (acceptRunning s r) := by
  simp [execRequestArrival, hr, hs, hrun]

theorem execRequestArrival_passing {r : Request} (hr : r.wf = true) (hs : s.stall = none)
    (he : s.engine.state = .halted ∨ s.engine.state = .bypassed) :
    execRequestArrival r s = .next (acceptPassing s r) := by
  rcases he with he | he <;> simp [execRequestArrival, hr, hs, he]

theorem execRequestArrival_refused {r : Request} (hr : r.wf = true)
    (h : s.stall.isSome = true ∨ s.engine.state = .reset ∨ s.engine.state = .loading) :
    execRequestArrival r s = .next s := by
  by_cases hs : s.stall.isSome = true
  · simp [execRequestArrival, hr, hs]
  · rcases h with h | h | h
    · exact absurd h hs
    · simp [execRequestArrival, hr, h]
    · simp [execRequestArrival, hr, h]

/-- A request accepted by a lane with nothing to wait for becomes its head. -/
theorem acceptOnto_empty {r : Request} (hh : (getLane s r.lane).head = none) (hb : (getLane s r.lane).backlog = []) :
    acceptOnto s r = setLane s r.lane { head := some { req := r, standing := .fresh }, backlog := [] } := by
  simp [acceptOnto, hh, hb]

theorem acceptOnto_room {r : Request} (h : (getLane s r.lane).head.isSome = true ∨ (getLane s r.lane).backlog ≠ [])
    (hb : (getLane s r.lane).backlog.length < 8) : acceptOnto s r = setLane s r.lane (appendBacklog (getLane s r.lane) r) := by
  rcases acceptOnto_cases s r with ⟨hh, he, -⟩ | ⟨-, h⟩ | ⟨-, hl, -⟩ | ⟨-, hl, -⟩
  · rcases h with h | h
    · rw [hh] at h; cases h
    · exact absurd he h
  · exact h
  · exact absurd hb (Nat.not_lt_of_le hl)
  · exact absurd hb (Nat.not_lt_of_le hl)

theorem acceptOnto_moved {r : Request} (hh : (getLane s r.lane).head = none)
    (hb : 8 ≤ (getLane s r.lane).backlog.length) :
    acceptOnto s r = setLane s r.lane (appendBacklog (moveUp (getLane s r.lane)) r) := by
  rcases acceptOnto_cases s r with ⟨-, he, -⟩ | ⟨hl, -⟩ | ⟨-, -, h⟩ | ⟨hs, -, -⟩
  · rw [he] at hb; simp at hb
  · exact absurd hl (Nat.not_lt_of_le hb)
  · exact h
  · rw [hh] at hs; cases hs

theorem acceptOnto_stalls {r : Request} (hh : (getLane s r.lane).head.isSome = true)
    (hb : 8 ≤ (getLane s r.lane).backlog.length) :
    acceptOnto s r = modCounters { s with stall := some { lane := r.lane, waiting := r } } fun c =>
      { c with upstreamStalls := raise c.upstreamStalls 1 } := by
  rcases acceptOnto_cases s r with ⟨hn, -, -⟩ | ⟨hl, -⟩ | ⟨hn, -, -⟩ | ⟨-, -, h⟩
  · rw [hn] at hh; cases hh
  · exact absurd hl (Nat.not_lt_of_le hb)
  · rw [hn] at hh; cases hh
  · exact h

/-- An arrival meets its lane as it stands, but where a fresh head is in front of a full backlog. -/
theorem acceptRunning_eq {r : Request} (h : (getLane s r.lane).backlog.length < 8 ∨
    (getLane s r.lane).head.all (fun k => decide (k.standing ≠ .fresh)) = true) : acceptRunning s r = acceptOnto s r := by
  unfold acceptRunning
  split
  next hh =>
    rcases h with h | h
    · exact if_pos h
    · rw [hh] at h
      cases h
  all_goals rfl

theorem acceptPassing_eq {r : Request} (h : (getLane s r.lane).backlog.length < 8) : acceptPassing s r = acceptOnto s r := by
  unfold acceptPassing
  split
  · exact if_pos h
  · rfl

theorem execHeadEvent_movedUp {l : LaneId} {q : Request} {rest : List Request} (hh : (getLane s l).head = none)
    (hb : (getLane s l).backlog = q :: rest) :
    execHeadEvent l s = .next (endStall (setLane s l { head := some { req := q, standing := .fresh }, backlog := rest }) l) := by
  simp [execHeadEvent, hh, hb, moveUp]

theorem headTreated_passing {l : LaneId} {r : Request} (he : s.engine.state = .halted ∨ s.engine.state = .bypassed) :
    headTreated s l r = forwardHead s l r none := by
  unfold headTreated
  rcases he with he | he <;> rw [he]

theorem headTreated_running {l : LaneId} {r : Request} (hrun : s.engine.state = .running) :
    headTreated s l r = settle s (treatHead s l r) := by
  unfold headTreated
  rw [hrun]

theorem endStall_of_room {l : LaneId} {st : Stall} (hst : s.stall = some st) (hl : st.lane = l)
    (hb : (getLane s l).backlog.length < 8) :
    endStall s l = setLane { s with stall := none } l (appendBacklog (getLane s l) st.waiting) := by
  unfold endStall
  rw [hst]
  exact if_pos ⟨hl, hb⟩

theorem endStall_of_other {l : LaneId} (h : s.stall.all (fun st => decide (st.lane ≠ l)) = true) : endStall s l = s := by
  unfold endStall
  split
  next => rfl
  next st hst =>
    rw [hst] at h
    exact if_neg fun hl => of_decide_eq_true h hl.1

/-! ### The head that an arrival finds before a full backlog -/

/-- A lane's head has been treated: it is gone or held, and the link and the engine are as they were. -/
structure Treated (s t : State) (l : LaneId) : Prop where
  engine : t.engine = s.engine
  stall : t.stall = s.stall
  head : ∀ h, (getLane t l).head = some h → h.standing ≠ .fresh

variable {u : State} {l : LaneId} {r : Request} {c : CtxId} {f : FinalRec}

theorem Treated.congr (h : Treated s t l) (he : u.engine = t.engine) (hst : u.stall = t.stall)
    (hl : u.lanes = t.lanes) : Treated s u l :=
  ⟨he.trans h.engine, hst.trans h.stall, by rw [getLane_congr hl]; exact h.head⟩

theorem treated_forwardHead (x : Option (CtxId × Word32)) : Treated s (forwardHead s l r x) l :=
  ⟨rfl, rfl, fun h hh => by
    have hgone : (getLane (forwardHead s l r x) l).head = none := by simp [forwardHead, getLane_clearHead]
    rw [hgone] at hh
    cases hh⟩

theorem treated_partAnswer : Treated s (partAnswer s l r) l :=
  ⟨rfl, rfl, fun h hh => by
    have hgone : (getLane (partAnswer s l r) l).head = none := by
      have hc := getLane_clearHead (answerError s r) l l
      rw [if_pos rfl] at hc
      exact congrArg Lane.head hc
    rw [hgone] at hh
    cases hh⟩

theorem treated_holdHead (h : HoldReason) : Treated s (holdHead s l r h) l :=
  ⟨rfl, rfl, fun k hk => by
    rw [holdHead, getLane_setLane_self] at hk
    cases hk
    simp⟩

/-- A held read that leaves takes its own lane's head alone. -/
theorem Treated.head_of_gone {k : LaneId} (h : Treated s t l) (he : u.engine = t.engine) (hst : u.stall = t.stall)
    (hl : u.lanes = (clearHead t k).lanes) : Treated s u l := by
  refine ⟨he.trans h.engine, hst.trans h.stall, fun x hx => ?_⟩
  rw [getLane_congr hl, getLane_clearHead] at hx
  split at hx
  · cases hx
  · exact h.head x hx

theorem Treated.fenceOutcome (h : Treated s t l) (x : CtxState) : Treated s (fenceOutcome t c x) l := by
  have hfold : ∀ (op : State → LaneId → State), (∀ y k, Treated s y l → Treated s (op y k) l) →
      ∀ ls : List LaneId, Treated s (ls.foldl op t) l := fun op hop ls =>
    List.foldlRecOn (motive := fun y => Treated s y l) ls op h fun y hy k _ => hop y k hy
  unfold Machine.fenceOutcome
  split
  · refine hfold _ (fun y k hy => ?_) _
    unfold releaseRead
    split
    · split
      · exact hy.head_of_gone (k := k) rfl rfl rfl
      · exact hy
    · exact hy
  · refine hfold _ (fun y k hy => ?_) _
    unfold failRead
    split
    · split
      · exact hy.head_of_gone (k := k) rfl rfl rfl
      · exact hy
    · exact hy

theorem Treated.enterFinal (h : Treated s t l) : Treated s (enterFinal t c f) l := by
  have hfin : Treated s (finalise t c f) l := h.congr (by simp) (by simp) (by simp)
  rw [enterFinal_eq]
  refine (hfin.fenceOutcome (c := c) f.state).congr ?_ ?_ ?_ <;>
    (unfold announceFinal; dsimp only; split <;> simp)

theorem Treated.taint (h : Treated s t l) (x : Cause) : Treated s (taint t c x) l :=
  h.congr (by simp) (by simp) (by simp)

theorem Treated.verdictOccasion (h : Treated s t l) : Treated s (verdictOccasion t c) l := by
  unfold Machine.verdictOccasion
  dsimp only
  split
  · split <;> exact h.enterFinal
  · exact h

theorem Treated.modCtx (h : Treated s t l) (g : Context → Context) : Treated s (modCtx t c g) l := h.congr rfl rfl rfl

theorem Treated.takeTrailer (h : Treated s t l) (x : Touch) (data : List Byte) : Treated s (takeTrailer t c x data) l := by
  have hkept : Treated s (Machine.modCtx t c fun cx => { cx with shadow := mergeTrailer cx.shadow x data }) l := h.modCtx _
  unfold Machine.takeTrailer
  dsimp only
  split
  · split
    · exact hkept
    · exact hkept.enterFinal
  · split
    · split
      · exact hkept.enterFinal
      · exact (hkept.modCtx _).verdictOccasion
    · exact hkept

/-- What is treated from a state with the same engine and link is treated from this one. -/
theorem Treated.of_start (h : Treated u t l) (he : u.engine = s.engine) (hst : u.stall = s.stall) : Treated s t l :=
  ⟨h.engine.trans he, h.stall.trans hst, h.head⟩

theorem treated_applyPolicy (x : Touch) (ps : List Extent) : Treated s (applyPolicy s l r x c ps) l := by
  unfold applyPolicy
  split
  · exact treated_forwardHead _
  · split
    · refine ⟨rfl, rfl, fun k hk => ?_⟩
      have hheld : (getLane (beginReconcile s l r x c ps) l).head = some { req := r, standing := .held .reconcile } :=
        congrArg Lane.head (getLane_setLane_self _ l _)
      rw [hheld] at hk
      cases hk
      simp
    · exact (treated_forwardHead _).congr rfl rfl rfl
    · exact (treated_partAnswer (s := modWinCounters (modCtx s c _) x.win _) (r := r)).of_start rfl rfl

theorem Treated.takeTrailerPiece (h : Treated s t l) (x : Touch) (data : List Byte) :
    Treated s (takeTrailerPiece t c x data) l := by
  unfold Machine.takeTrailerPiece
  split
  · exact h.takeTrailer x data
  · exact h

theorem treated_takePayload (x : Touch) : Treated s (takePayload s l r x c) l := by
  unfold takePayload
  dsimp only
  split
  · exact treated_partAnswer.of_start rfl rfl
  · split
    · exact ((treated_applyPolicy x _).takeTrailerPiece x _).of_start rfl rfl
    · split
      · exact (treated_forwardHead _).enterFinal
      · exact ((treated_applyPolicy x _).takeTrailerPiece x _).verdictOccasion.of_start (by simp) (by simp)

theorem treated_takeWrite (x : Touch) : Treated s (takeWrite s l r x c) l := by
  unfold takeWrite
  dsimp only
  split
  · exact (treated_takePayload x).of_start rfl rfl
  · exact ((treated_forwardHead _).takeTrailer x _).of_start rfl rfl

theorem treated_holdPriming : Treated s (holdPriming s l r) l := (treated_holdHead .priming).congr rfl rfl rfl

theorem treated_writeUnbound (x : Touch) : Treated s (writeUnbound s l r x) l := by
  unfold writeUnbound
  dsimp only
  split
  · split
    · exact treated_holdPriming.of_start (by simp) (by simp)
    · exact (treated_forwardHead none).congr rfl rfl rfl
  · exact (treated_forwardHead none).congr rfl rfl rfl

theorem treated_writeBound (x : Touch) : Treated s (writeBound s l r x c) l := by
  have hend : Treated s (writeBound.countAfterEnd s l r x c) l := by
    unfold writeBound.countAfterEnd
    split
    · exact (treated_forwardHead none).modCtx _
    · exact treated_forwardHead none
  unfold writeBound
  split
  case h_1 => exact treated_forwardHead none
  case h_2 => exact treated_holdPriming
  case h_3 => exact treated_takeWrite x
  case h_4 =>
    split
    · exact (treated_forwardHead none).taint _
    · unfold rewriteTrailer
      dsimp only
      split
      · exact (treated_forwardHead none).modCtx _
      · exact ((treated_forwardHead none).modCtx _).taint _
  case h_5 => exact (treated_forwardHead none).congr rfl rfl rfl
  all_goals exact hend

theorem treated_writeBay (x : Touch) : Treated s (writeBay s l r x) l := by
  unfold writeBay
  split
  · exact treated_partAnswer
  · split
    · exact treated_forwardHead none
    · split
      · exact treated_writeUnbound x
      · exact treated_writeBound x

theorem treated_readBay (x : Touch) : Treated s (readBay s l r x) l := by
  have hrefuse : Treated s (refuseRead s l r) l := treated_partAnswer.congr rfl rfl rfl
  unfold readBay
  split
  · exact treated_partAnswer
  · split
    · unfold fencedRead
      split
      · exact hrefuse
      · split
        case h_1 => exact (treated_holdHead .fence).congr rfl rfl rfl
        case h_2 => exact (treated_holdHead .fence).congr rfl rfl rfl
        case h_3 => exact treated_forwardHead none
        all_goals exact hrefuse
    · exact treated_forwardHead none

theorem Treated.straddleTouch (h : Treated s t l) (x : Touch) : Treated s (straddleTouch t x) l := by
  unfold Machine.straddleTouch
  split
  · exact h
  · split
    case h_1 => exact h
    case h_2 => exact h
    case h_3 => exact h.enterFinal
    case h_4 => exact h.taint _
    case h_5 => exact h.congr rfl rfl rfl
    all_goals exact h.modCtx _

theorem treated_straddleWrite (ts : List Touch) : Treated s (straddleWrite s l r ts) l := by
  unfold straddleWrite
  dsimp only
  split
  · exact (treated_partAnswer (r := r)).congr (by simp [countStraddleWrite]) (by simp [countStraddleWrite])
      (by simp [countStraddleWrite])
  · split
    · exact treated_holdPriming
    · refine List.foldlRecOn (motive := fun y => Treated s y l) _ _ ?_ fun y hy x _ => hy.straddleTouch x
      have hsent : Treated s (countStraddleWrite (copyToShadow (forwardHead s l r none) r) ts) l :=
        (treated_forwardHead (r := r) none).congr (by simp [countStraddleWrite]) (by simp [countStraddleWrite])
          (by simp [countStraddleWrite])
      unfold straddleOrder
      split
      · exact hsent.congr rfl rfl rfl
      · exact hsent

theorem treated_straddleRead (ts : List Touch) : Treated s (straddleRead s l r ts) l := by
  unfold straddleRead
  split
  · exact (treated_partAnswer (r := r)).congr (by simp [countStraddleRead]) (by simp [countStraddleRead])
      (by simp [countStraddleRead])
  · exact (treated_forwardHead (r := r) none).congr (by simp [countStraddleRead]) (by simp [countStraddleRead])
      (by simp [countStraddleRead])

/-- R118: no head awaits its first head event after its treatment. -/
theorem treated_treatHead : Treated s (treatHead s l r) l := by
  unfold treatHead
  split
  · exact (treated_holdHead .conflict).congr rfl rfl rfl
  · unfold treatClass
    split
    case h_1 => exact treated_forwardHead none
    case h_2 => exact (treated_forwardHead (r := r) none).congr (by simp) (by simp) (by simp)
    case h_3 => exact treated_forwardHead none
    case h_4 => exact treated_straddleWrite _
    case h_5 => exact treated_straddleRead _
    case h_6 => exact treated_writeBay _
    case h_7 => exact treated_writeBay _
    case h_8 => exact treated_writeBay _
    all_goals exact treated_readBay _

theorem settle_engine (b s : State) : (settle b s).engine.state = s.engine.state := by simp [settle, evalAttn]

/-! ### The Memory Port (R176, R177) -/

theorem noteIssue_of_other {o : Owner} (hr : o.isReconcile = false) (hc : o.isRecheck = false) : noteIssue s o = s := by
  cases o with
  | reconcile l => cases hr
  | recheck off => cases hc
  | _ => rfl

theorem isForwarded_other {o : Owner} (h : o.isForwarded = true) : o.isReconcile = false ∧ o.isRecheck = false := by
  cases o with
  | forwarded f => exact ⟨rfl, rfl⟩
  | _ => cases h

theorem execOrphanResponse_of {id : Nat} {resp : MemResp} (h : (findIssued s id).map (·.owner) = some .orphan) :
    execOrphanResponse id resp s = .next (retireIssued s id) := by
  obtain ⟨⟨k, a, n, d, o⟩, hm, ho⟩ := Option.map_eq_some_iff.mp h
  cases ho
  simp [execOrphanResponse, hm]

/-! ### Status blocks (R167) -/

theorem execStatusBlockWriteDone_of {id : Nat} {m : MemReq} (h : findIssued s id = some m) (ho : m.owner = .statusBlock) :
    execStatusBlockWriteDone id s = .next (nextBlock (retireIssued s id)) := by
  obtain ⟨k, a, n, d, o⟩ := m
  cases ho
  simp [execStatusBlockWriteDone, h]

theorem nextBlock_before {id n : Nat} (hn : s.report.snapWriting = some n) (h : n < 16) :
    nextBlock (retireIssued s id) = handBlock (retireIssued s id) (n + 1) := by simp [nextBlock, hn, h]

theorem nextBlock_last {id n : Nat} (hn : s.report.snapWriting = some n) (h : 16 ≤ n) :
    nextBlock (retireIssued s id) =
      if (retireIssued s id).report.snapRepeat then
        beginSnapshot (modReport (retireIssued s id) fun u => { u with snapRepeat := false })
      else modReport (retireIssued s id) fun u => { u with snapWriting := none } := by
  simp [nextBlock, hn, Nat.not_lt_of_le h]

theorem requestSnapshot_idle (s : State) (h : s.report.snapWriting = none) : requestSnapshot s = beginSnapshot s := by
  simp [requestSnapshot, h]

theorem requestSnapshot_writing (s : State) {n : Nat} (h : s.report.snapWriting = some n) :
    requestSnapshot s = modReport s fun u => { u with snapRepeat := true } := by
  simp [requestSnapshot, h]

/-! ### The Time Base's events at a tick (R143, R150) -/

theorem attnLevel_running (hrun : s.engine.state = .running) :
    attnLevel s = (s.report.attnEnable && decide (s.report.producer ≠ s.report.consumer)) := by
  have hpos : 0 < unconsumed s ↔ s.report.producer ≠ s.report.consumer := by
    unfold unconsumed
    bv_omega
  simp [attnLevel, isRunning, hrun, hpos]

theorem noteAble_of_able {b : Bool} (h : able s = true → b = true) : noteAble b s = s := by
  refine if_neg fun hn => ?_
  rw [Bool.and_eq_true, h hn.2] at hn
  cases hn.1

/-- An event after which no record may leave closes with ATTN. -/
theorem settle_of_rest {b : State} (hm : mayLeave s = true → s.report.list = []) (ha : able s = true → able b = true) :
    settle b s = evalAttn s := by
  rw [settle, drain_of_quiet hm]
  exact noteAble_of_able ha

/-- The state after pending settings are adopted, but for ATTN. -/
def adoptedState (s : State) (v : Settings) : State :=
  modReport (modTime s fun t => adoptedTime t v) fun u => { u with attnEnable := v.attn }

/-- R143, R173: what the close of an adoption leaves. -/
theorem settle_adopted {v : Settings} (hs : RestInv s) (hrun : s.engine.state = .running) :
    settle s (adoptedState s v) = { adoptedState s v with
      engine := { s.engine with attn := v.attn && decide (s.report.producer ≠ s.report.consumer) } } := by
  obtain ⟨-, -, hlist, -⟩ := hs
  have hlevel : attnLevel (adoptedState s v) = (v.attn && decide (s.report.producer ≠ s.report.consumer)) :=
    attnLevel_running hrun
  rw [settle_of_rest (s := adoptedState s v) (b := s) hlist id, evalAttn, hlevel]
  rfl

/-- R150: the state after the countdown is loaded again. -/
def countdownLoaded (s : State) : State :=
  { s with time := { s.time with countdown := some s.time.period, tickOpen := false } }

theorem execSnapshotCountdownEnd_ended {n : Nat} (hrun : s.engine.state = .running) (ht : s.time.tickOpen = true)
    (hp : s.time.pendingSettings = none) (hn : s.time.countdown = some n) (hle : n ≤ 1) :
    exec .snapshotCountdownEnd s = .next (requestSnapshot (countdownLoaded s)) := by
  obtain rfl | rfl : n = 0 ∨ n = 1 := by omega
  · simp [exec, execSnapshotCountdownEnd, hrun, ht, hp, ageCountdown, hn, modTime, countdownLoaded]
  · simp [exec, execSnapshotCountdownEnd, hrun, ht, hp, ageCountdown, hn, modTime, countdownLoaded]

theorem blockWrite_window (s : State) (w : WinId) :
    blockWrite s (w.val + 1) = MemReq.mk .write (pageAddr s (0x1000 + 64 * w.val)) 64 (windowStatus s w) .statusBlock := by
  simp [blockWrite]

/-! ### The ladder builder (R7, R47) -/

theorem execLadderComplete_of {c : CtxId} {b : Binding} {d : WinDef} (hb : s.builder.building = some c)
    (hc : (getCtx s c).state = .priming) (hbind : (getCtx s c).binding = some b) (hd : (getWin s b.win).defn = some d) :
    execLadderComplete s = .next (releasePriming
      (modCtx (ageTaken { s with builder := nextBuild s.builder } c) c fun cx => collectingContext cx b.key d.idleLimit)
      b.win b.bay) := by
  have hdefn : defnOf s c = some d := by simp [defnOf, windowOf, hbind, hd]
  simp only [execLadderComplete, hb]
  rw [hc, hbind, hdefn]

theorem nextBuild_eq {b : Builder} : nextBuild b = { building := b.queue.head?, queue := b.queue.tail } := by
  unfold nextBuild
  split
  next h => rw [h]; rfl
  next h => rw [h]; rfl

theorem getLane_releaseHeads (s : State) (q : Request → HoldReason → Bool) (l : LaneId) :
    getLane (releaseHeads s q) l = releaseHead q (getLane s l) := by simp [releaseHeads, getLane]

theorem releaseHead_backlog (q : Request → HoldReason → Bool) (x : Lane) : (releaseHead q x).backlog = x.backlog := by
  unfold releaseHead
  repeat' split
  all_goals rfl

/-- R120: the heads held for PRIMING on a bay after their release. -/
theorem releaseHead_priming (w : WinId) (bay : Nat) (x : Lane) :
    (releaseHead (fun r h => decide (h = .priming) && touchesBay s r w bay) x).head =
      (match x.head with
        | some { req := r, standing := .held .priming } =>
          some { req := r, standing := if touchesBay s r w bay then .released else .held .priming }
        | some h => some h
        | none => none) := by
  obtain ⟨head, backlog⟩ := x
  rcases head with - | ⟨r, st⟩
  · rfl
  · cases st with
    | fresh => rfl
    | released => rfl
    | held h => cases h <;> simp only [releaseHead] <;> split <;> simp_all

end Sys2Proof.Machine

open Sys2Proof Sys2Proof.Machine

/-- Settles O2. -/
theorem microsecondsAndIdleSteps : Obligations.MicrosecondsAndIdleSteps := by
  intro s
  refine ⟨fun hr h => ?_, fun hr h => ?_, execMicrosecondStep_stopped, fun he hr hp => ?_, fun he hr hp => ?_,
    fun he hr => ?_⟩
  · exact (execMicrosecondStep_running hr).trans (by rw [modTime, raiseMicros_below h])
  · exact (execMicrosecondStep_running hr).trans (by rw [modTime, raiseMicros_reached h])
  · rw [step_idle he, refclkPeriod_waits hr hp]
  · rw [step_idle he, refclkPeriod_runsOut hr hp]
    exact (execMicrosecondStep_running hr).symm
  · rw [step_idle he, refclkPeriod_stopped hr]

/-- Settles O3. -/
theorem pinResetLeavesTheTable : Obligations.PinResetLeavesTheTable := fun _ =>
  ⟨_, rfl, rfl, rfl, rfl, rfl,
    fun l => ⟨congrArg Lane.head (getLane_reset l), congrArg Lane.backlog (getLane_reset l), getSlot_reset l, getFence_reset l⟩,
    rfl, rfl, getWin_reset, getCtx_reset, rfl, rfl, rfl, ⟨rfl, rfl, rfl, rfl, rfl, rfl, rfl⟩,
    ⟨rfl, rfl, rfl, rfl, rfl, rfl, rfl, rfl, rfl, rfl⟩, rfl, ⟨rfl, rfl, rfl, rfl, rfl, rfl, rfl⟩, rfl,
    ⟨rfl, rfl, rfl, rfl, rfl⟩, rfl⟩

/-- Settles O4. -/
theorem resetReleaseSamplesStraps : Obligations.ResetReleaseSamplesStraps := by
  intro cpb s hr
  exact ⟨if_pos hr, if_pos hr⟩

/-- Settles O8: the lane's head and the length of its backlog decide the arrival's case. -/
theorem arrivalOnALane : Obligations.ArrivalOnALane := by
  intro r s hr
  refine ⟨execRequestArrival_refused hr, fun hrun hs => ⟨fun hh hb => ?_, fun h hb => ?_, fun hh hb => ?_,
    fun q rest hh hb hl => ?_, fun q hh hb => ?_⟩, fun l rest hh hb hl => ⟨fun st hst hl' => ?_, fun hst => ?_⟩⟩
  · refine (execRequestArrival_running hr hs hrun).trans ?_
    rw [acceptRunning_eq (.inl (by rw [hb]; simp)), acceptOnto_empty hh hb]
    rfl
  · refine (execRequestArrival_running hr hs hrun).trans ?_
    rw [acceptRunning_eq (.inl hb), acceptOnto_room h hb]
    rfl
  · obtain ⟨k, hk, hfresh⟩ : ∃ k, (getLane s r.lane).head = some k ∧ k.standing ≠ .fresh := by
      cases hk : (getLane s r.lane).head with
      | none => rw [hk] at hh; cases hh
      | some k => rw [hk] at hh; exact ⟨k, rfl, by simpa using hh⟩
    refine (execRequestArrival_running hr hs hrun).trans ?_
    rw [acceptRunning_eq (.inr (by rw [hk]; simpa using hfresh)), acceptOnto_stalls (by rw [hk]; rfl) hb.ge]
    rfl
  · have hfull : (getLane s r.lane).backlog.length = 8 := by rw [hb, List.length_cons, hl]
    refine (execRequestArrival_running hr hs hrun).trans ?_
    rw [acceptRunning_eq (.inr (by rw [hh]; rfl)), acceptOnto_moved hh hfull.ge, moveUp, hb]
    rfl
  · have htreat : Treated s (treatHead s r.lane q) r.lane := treated_treatHead
    refine ⟨settle s (treatHead s r.lane q), (execHeadEvent_of_awaiting (.inl hh)).trans (by rw [headTreated_running hrun]),
      ?_⟩
    have hafter : (getLane (settle s (treatHead s r.lane q)) r.lane).head.all
        (fun k => decide (k.standing ≠ .fresh)) = true := by
      rw [getLane_congr (s := treatHead s r.lane q) (by simp)]
      cases hk : (getLane (treatHead s r.lane q) r.lane).head with
      | none => rfl
      | some k => exact decide_eq_true (htreat.head k hk)
    calc exec (.requestArrival r) s
        = .next (acceptRunning s r) := execRequestArrival_running hr hs hrun
      _ = .next (acceptOnto (settle s (treatHead s r.lane q)) r) := by rw [acceptRunning_of_fresh hh hb.ge]
      _ = .next (acceptRunning (settle s (treatHead s r.lane q)) r) := by rw [acceptRunning_eq (.inr hafter)]
      _ = exec (.requestArrival r) (settle s (treatHead s r.lane q)) :=
        (execRequestArrival_running hr (by simp [htreat.stall, hs]) (by rw [settle_engine, htreat.engine, hrun])).symm
  · refine (execHeadEvent_movedUp hh hb).trans (congrArg Host.Outcome.next ?_)
    have hroom := endStall_of_room
      (s := setLane s l { head := some { req := r, standing := .fresh }, backlog := rest }) hst hl'
      (by rwa [getLane_setLane_self])
    rw [hroom, getLane_setLane_self]
    simp [setLane, appendBacklog]
  · exact (execHeadEvent_movedUp hh hb).trans (congrArg Host.Outcome.next (endStall_of_other hst))

/-- Settles O9. -/
theorem passingStatesForward : Obligations.PassingStatesForward := by
  intro r l s he
  refine ⟨fun ha => ?_, fun hr hs hh hb => ?_, fun hr hs h hb => ?_⟩
  · refine (execHeadEvent_of_awaiting ha).trans ?_
    rw [headTreated_passing he, forwardHead_eq]
  · refine (execRequestArrival_passing hr hs he).trans ?_
    rw [acceptPassing_eq (by rw [hb]; simp), acceptOnto_empty hh hb]
    rfl
  · refine (execRequestArrival_passing hr hs he).trans ?_
    rw [acceptPassing_eq hb, acceptOnto_room h hb]
    rfl

/-- Settles O20: the queues' heads in the order of the classes, and what each owner notes. -/
theorem issueAndOrphans : Obligations.IssueAndOrphans := by
  intro r rest s
  refine ⟨fun hq ho => ?_, fun l h1 hq ho => ?_, fun h1 h2 hq ho ho' => ?_, fun h1 h2 h3 hq off ho => ?_, fun id resp h => ?_⟩
  · obtain ⟨hrec, hchk⟩ := isForwarded_other ho
    simp only [exec, execMemoryIssue, arbitrate, hq, noteIssue_of_other hrec hchk]
  · simp only [exec, execMemoryIssue, arbitrate, h1, hq, ho]
    rfl
  · simp only [exec, execMemoryIssue, arbitrate, h1, h2, hq, noteIssue_of_other ho ho']
  · simp only [exec, execMemoryIssue, arbitrate, h1, h2, h3, hq, ho]
    rfl
  · exact (execOrphanResponse_of (resp := resp) h).trans rfl

/-- Settles O33. -/
theorem ladderCompleteBeginsCollecting : Obligations.LadderCompleteBeginsCollecting := by
  intro c b d s hb hc hbind hd
  refine ⟨_, execLadderComplete_of hb hc hbind hd, rfl, nextBuild_eq, fun l => ?_, rfl, rfl, rfl, rfl, rfl⟩
  rw [releasePriming, getLane_releaseHeads]
  exact ⟨releaseHead_backlog _ _, releaseHead_priming _ _ _⟩

/-- Settles O39. -/
theorem settingsAdoptedAndCountdownEnds : Obligations.SettingsAdoptedAndCountdownEnds := by
  intro s hs hrun ht
  refine ⟨fun v hv => ?_, fun n hp hn hle => ⟨fun hw => ?_, fun hw => ?_⟩⟩
  · have hexec : exec .settingsAdopt s = .next (settle s (adoptedState s v)) := by
      simp [exec, execSettingsAdopt, hrun, ht, hv, adoptedState]
    rw [hexec, settle_adopted hs hrun]
    rfl
  · rw [execSnapshotCountdownEnd_ended hrun ht hp hn hle, requestSnapshot_idle (countdownLoaded s) hw]
    rfl
  · obtain ⟨k, hk⟩ := Option.isSome_iff_exists.mp hw
    rw [execSnapshotCountdownEnd_ended hrun ht hp hn hle, requestSnapshot_writing (countdownLoaded s) (n := k) hk]
    rfl

/-- Settles O40. -/
theorem statusBlocksFollowInOrder : Obligations.StatusBlocksFollowInOrder := by
  intro id n m s hm ho hn
  have hexec := execStatusBlockWriteDone_of hm ho
  refine ⟨fun w hw => hexec.trans ?_, fun h16 hr => hexec.trans ?_, fun h16 hr => hexec.trans ?_⟩
  · subst hw
    rw [nextBlock_before hn w.isLt, handBlock, blockWrite_window]
    rfl
  · rw [nextBlock_last hn h16, if_neg (by rw [show (retireIssued s id).report.snapRepeat = false from hr]; simp)]
    rfl
  · rw [nextBlock_last hn h16, if_pos (show (retireIssued s id).report.snapRepeat = true from hr)]
    rfl
end

section
/-! Head events that hand over no record: conflicts, plain forwarding, the shadow's copy, fenced reads, and writes before
COLLECTING. -/

set_option Elab.async false

namespace Sys2Proof.Machine

variable {s t : State} {l : LaneId} {r : Request}

/-! ### What a treated head leaves (R118, R123, R124) -/

theorem partAnswer_eq (s : State) (l : LaneId) (r : Request) :
    partAnswer s l r = { s with
      lanes := headGone s l, upOut := s.upOut ++ [errorTo r]
      counters := { s.counters with partAnswers := min (s.counters.partAnswers + 1) 4294967295 } } := rfl

theorem holdHead_eq (s : State) (l : LaneId) (r : Request) (h : HoldReason) :
    holdHead s l r h = { s with lanes := headHeld s l r h } := rfl

theorem holdPriming_eq (s : State) (l : LaneId) (r : Request) :
    holdPriming s l r = { s with
      lanes := headHeld s l r .priming
      counters := { s.counters with primingHolds := min (s.counters.primingHolds + 1) 4294967295 } } := rfl

theorem execHeadEvent_running (hrun : s.engine.state = .running) (ha : awaits s l r) :
    exec (.headEvent l) s = .next (settle s (treatHead s l r)) :=
  (execHeadEvent_of_awaiting ha).trans (by rw [headTreated_running hrun])

theorem execHeadEvent_due (h : HeadDue s l r) : exec (.headEvent l) s = .next (settle s (treatClass s l r)) := by
  obtain ⟨hrun, ha, hc⟩ := h
  rw [execHeadEvent_running hrun ha, treatHead, if_neg (by rw [hc]; simp)]

/-- A head event that hands over nothing to the Report Unit leaves what its class does. -/
theorem execHeadEvent_quiet (hs : RestInv s) (h : HeadDue s l r) (ht : treatClass s l r = t) (hq : Quiet s t) :
    exec (.headEvent l) s = .next t := by
  rw [execHeadEvent_due h, ht, hq.settle hs]

theorem treatClass_write {x : Touch} (h : OneBay s r x) (hk : r.kind = .write) :
    treatClass s l r = writeBay s l r x := by
  rcases h with h | h | h <;> simp [treatClass, h, hk]

theorem treatClass_read {x : Touch} (h : OneBay s r x) (hk : r.kind = .read) : treatClass s l r = readBay s l r x := by
  rcases h with h | h | h <;> simp [treatClass, h, hk]

theorem bayIsolated_of_lookup {w : WinId} {bay : Nat} {c : CtxId} (h : lookup s w bay = some c) :
    bayIsolated s w bay = (getCtx s c).isolated := by
  unfold bayIsolated
  rw [h]

theorem bayIsolated_of_unbound {w : WinId} {bay : Nat} (h : lookup s w bay = none) : bayIsolated s w bay = false := by
  unfold bayIsolated
  rw [h]

theorem bayState_of_lookup {w : WinId} {bay : Nat} {c : CtxId} (h : lookup s w bay = some c) :
    bayState s w bay = some (getCtx s c).state := by
  unfold bayState
  rw [h]
  rfl

/-! ### Reads (R59, R132) -/

theorem readBay_forwarded {x : Touch} (hi : bayIsolated s x.win x.bay = false)
    (h : x.hasPayload = false ∨ x.d.readPolicy = .pass) : readBay s l r x = forwardHead s l r none := by
  have hn : (x.hasPayload && decide (x.d.readPolicy = .fence)) = false := by
    rcases h with h | h
    · rw [h, Bool.false_and]
    · simp [h]
  rw [readBay, hi, hn]
  rfl

/-! ### What a class says of its bay (R23, R24) -/

theorem classOf_payload {x n : Nat} {u : Touch} (h : classOf s x n = .payload u) :
    touches s x n = [u] ∧ u.hi ≤ u.d.capacity := by
  unfold classOf at h
  split at h
  · split at h <;> cases h
  next v hv =>
    split at h
    · split at h
      next hle => cases h; exact ⟨hv, hle⟩
      · split at h <;> cases h
    · cases h
  · cases h

theorem classOf_trailer {x n : Nat} {u : Touch} (h : classOf s x n = .trailer u) :
    touches s x n = [u] ∧ u.d.capacity ≤ u.lo := by
  unfold classOf at h
  split at h
  · split at h <;> cases h
  next v hv =>
    split at h
    · split at h
      · cases h
      · split at h
        next hle => cases h; exact ⟨hv, hle⟩
        · cases h
    · cases h
  · cases h

theorem classOf_both {x n : Nat} {u : Touch} (h : classOf s x n = .both u) :
    touches s x n = [u] ∧ u.d.capacity < u.hi ∧ u.lo < u.d.capacity := by
  unfold classOf at h
  split at h
  · split at h <;> cases h
  next v hv =>
    split at h
    · split at h
      · cases h
      next hhi =>
        split at h
        · cases h
        next hlo => cases h; exact ⟨hv, by omega, by omega⟩
    · cases h
  · cases h

theorem lo_lt_hi_of_mem_bayTouches {w : WinId} {d : WinDef} {x n : Nat} {u : Touch} (h : u ∈ bayTouches w d x n) :
    u.lo < u.hi := by
  have hpos : 0 < d.baySize := Nat.two_pow_pos d.s
  unfold bayTouches at h
  dsimp only at h
  split at h
  next hlt =>
    have hlo := Nat.div_mul_le_self (max x d.base.toNat - d.base.toNat) d.baySize
    have hhi := Nat.div_mul_le_self (min (x + n) d.regionEnd - d.base.toNat - 1) d.baySize
    have hmod := Nat.lt_div_mul_add hpos (a := max x d.base.toNat - d.base.toNat)
    split at h
    next he =>
      obtain rfl := List.mem_singleton.mp h
      dsimp only
      omega
    next hne =>
      rcases List.mem_pair.mp h with rfl | rfl <;> dsimp only <;> omega
  next => cases h

/-- Every bay that a request touches holds a byte of it. -/
theorem lo_lt_hi_of_mem_touches {x n : Nat} {u : Touch} (h : u ∈ touches s x n) : u.lo < u.hi := by
  obtain ⟨w, -, hu⟩ := List.mem_flatMap.mp h
  split at hu
  · exact lo_lt_hi_of_mem_bayTouches hu
  · cases hu

theorem lo_lt_hi_of_touches {x n : Nat} {u : Touch} (h : touches s x n = [u]) : u.lo < u.hi :=
  lo_lt_hi_of_mem_touches (s := s) (x := x) (n := n) (by rw [h]; exact List.mem_singleton_self u)

theorem payload_areas {u : Touch} (h : classify s r = .payload u) : u.hasPayload = true ∧ u.hasTrailer = false := by
  obtain ⟨ht, hle⟩ := classOf_payload h
  have hlt := lo_lt_hi_of_touches ht
  exact ⟨decide_eq_true (by omega), decide_eq_false (by omega)⟩

theorem trailer_areas {u : Touch} (h : classify s r = .trailer u) : u.hasPayload = false ∧ u.hasTrailer = true := by
  obtain ⟨ht, hle⟩ := classOf_trailer h
  have hlt := lo_lt_hi_of_touches ht
  exact ⟨decide_eq_false (by omega), decide_eq_true (by omega)⟩

theorem both_areas {u : Touch} (h : classify s r = .both u) : u.hasPayload = true ∧ u.hasTrailer = true := by
  obtain ⟨-, hhi, hlo⟩ := classOf_both h
  exact ⟨decide_eq_true hlo, decide_eq_true hhi⟩

theorem hasPayload_of_class {u : Touch} (h : classify s r = .payload u ∨ classify s r = .both u) :
    u.hasPayload = true := by
  rcases h with h | h
  · exact (payload_areas h).1
  · exact (both_areas h).1

/-- A payload byte is a byte that R26 counts. -/
theorem significant_of_payload {u : Touch} (h : u.hasPayload = true) : u.significant = true := by
  have hlt := of_decide_eq_true h
  exact decide_eq_true (by omega)

/-! ### Fenced reads (R132, R133) -/

theorem readBay_fenced {u : Touch} (h : classify s r = .payload u ∨ classify s r = .both u)
    (hf : u.d.readPolicy = .fence) (hi : bayIsolated s u.win u.bay = false) : readBay s l r u = fencedRead s l r u := by
  rw [readBay, hi, hasPayload_of_class h]
  simp [hf]

theorem refuseRead_eq (s : State) (l : LaneId) (r : Request) :
    refuseRead s l r = { s with
      lanes := headGone s l, upOut := s.upOut ++ [errorTo r]
      counters := { s.counters with
        partAnswers := min (s.counters.partAnswers + 1) 4294967295
        fenceRefusals := min (s.counters.fenceRefusals + 1) 4294967295 } } := rfl

theorem fencedRead_refused {u : Touch} (h : bayState s u.win u.bay = none ∨ bayState s u.win u.bay = some .guard ∨
      (bayState s u.win u.bay ≠ some .verified ∧ (bayState s u.win u.bay).any CtxState.isFinal = true)) :
    fencedRead s l r u = refuseRead s l r := by
  unfold fencedRead
  split
  next => rfl
  next c hc =>
    rw [bayState_of_lookup hc] at h
    split
    all_goals simp_all [CtxState.isFinal]

theorem fencedRead_held {u : Touch} {c : CtxId} (hc : lookup s u.win u.bay = some c)
    (h : bayState s u.win u.bay = some .priming ∨ bayState s u.win u.bay = some .collecting) :
    fencedRead s l r u = holdRead s l r u c := by
  rw [bayState_of_lookup hc, Option.some_inj, Option.some_inj] at h
  unfold fencedRead
  rw [hc]
  rcases h with h | h <;> simp [h]

theorem fencedRead_verified {u : Touch} (h : bayState s u.win u.bay = some .verified) :
    fencedRead s l r u = forwardHead s l r none := by
  obtain ⟨c, hc, hv⟩ := Option.map_eq_some_iff.mp h
  unfold fencedRead
  rw [hc]
  simp [hv]

/-! ### Straddling reads (R27) -/

theorem getWin_countWindows (s : State) (ts : List Touch) (f : WinCounters → WinCounters) (w : WinId) :
    getWin (countWindows s ts f) w =
      if ts.any (fun t => decide (t.win = w)) then { getWin s w with counters := f (getWin s w).counters }
      else getWin s w := by
  have hown : ∀ x i k, i ≠ k → getWin (if ts.any (fun t => decide (t.win = i)) then modWinCounters x i f else x) k =
      getWin x k := fun x i k hne => by
    split
    · exact getWin_modWin_of_ne x i k _ hne
    · rfl
  obtain ⟨x, hx, hw⟩ := foldl_own getWin hown nodup_allWins (mem_allWins w) s
  rw [countWindows, hw]
  split
  · rw [modWinCounters, getWin_modWin_self, hx]
  · exact hx

theorem quiet_countWindows (h : Quiet s t) (ts : List Touch) (f : WinCounters → WinCounters) :
    Quiet s (countWindows t ts f) where
  view := (show ringView (countWindows t ts f) = ringView t by simp [ringView]).trans h.view
  owed :=
    { win := fun w => by
        rw [getWin_countWindows, ← h.owed.win]
        split <;> rfl
      ctx := fun c => by rw [getCtx_congr (s := t) (by simp), h.owed.ctx]
      waiting := by simp [h.owed.waiting] }
  waitingDone := by simp [h.waitingDone]

theorem treatClass_straddleRead {ts : List Touch} (h : classify s r = .straddle ts) (hk : r.kind = .read) :
    treatClass s l r = straddleRead s l r ts := by simp [treatClass, h, hk]

theorem quiet_straddleRead (ts : List Touch) : Quiet s (straddleRead s l r ts) := by
  unfold straddleRead
  split
  · exact quiet_countWindows (s := s) (t := partAnswer s l r) (.of_eq rfl rfl rfl rfl rfl) ts _
  · exact quiet_countWindows (s := s) (t := forwardHead s l r none) (.of_eq rfl rfl rfl rfl rfl) ts _

/-! ### The shadow's copy of a CONTROL write (R164) -/

theorem inPage_of_control {x n : Nat} (h : classOf s x n = .control) : inPage s x n = true := by
  unfold classOf at h
  split at h
  · split at h
    next hp => exact hp
    · cases h
  · split at h
    · split at h
      · cases h
      · split at h <;> cases h
    · cases h
  · cases h

theorem treatClass_controlWrite (h : classify s r = .control) (hk : r.kind = .write) :
    treatClass s l r = copyToShadow (forwardHead s l r none) r := by simp [treatClass, h, hk]

/-- The bytes of a request that lie in the control page. -/
def pageBytes (s : State) (r : Request) : List Byte :=
  (r.data.drop (pageBase s - r.addr.toNat)).take (16384 - (r.addr.toNat - pageBase s))

/-- The page offset of the first of them. -/
def pageOffset (s : State) (r : Request) : Nat := r.addr.toNat - pageBase s

theorem pageBytes_length (s : State) (h : r.data.length = r.count) :
    (pageBytes s r).length = min (16384 - (r.addr.toNat - pageBase s)) (r.count - (pageBase s - r.addr.toNat)) := by
  simp [pageBytes, h]

theorem softwareOwned_lt {x : Nat} (h : softwareOwned x = true) : x < 4096 := by
  simp only [softwareOwned, inSettings, inConsumer, inWindowTable, inRing, Bool.or_eq_true, decide_eq_true_eq] at h
  omega

/-- R164: a software-owned offset is copied exactly where the request covers its address. -/
theorem readByte_copyToShadow (hwf : shadowWf s.orders.shadow = true) (hl : r.data.length = r.count) (x : Nat) :
    readByte (copyToShadow s r).orders.shadow x =
      if softwareOwned x = true ∧ r.addr.toNat ≤ pageBase s + x ∧ pageBase s + x < r.addr.toNat + r.count then
        r.data.getD (pageBase s + x - r.addr.toNat) 0
      else readByte s.orders.shadow x := by
  have hshadow : (copyToShadow s r).orders.shadow = copyBytes s.orders.shadow (pageOffset s r) (pageBytes s r) :=
    copyToShadow_shadow s r
  rw [hshadow, readByte_copyBytes _ _ _ hwf, pageBytes_length s hl, pageOffset]
  by_cases hx : softwareOwned x = true
  · have hlt := softwareOwned_lt hx
    by_cases hc : r.addr.toNat ≤ pageBase s + x ∧ pageBase s + x < r.addr.toNat + r.count
    · rw [if_pos ⟨hx, by omega, by omega⟩, if_pos ⟨hx, hc⟩]
      simp only [pageBytes, List.getD_eq_getElem?_getD]
      rw [List.getElem?_take_of_lt (by omega), List.getElem?_drop]
      congr 2
      omega
    · rw [if_neg (by omega), if_neg fun h => hc h.2]
  · rw [if_neg fun h => hx h.1, if_neg fun h => hx h.1]

/-- R164: a request has a byte in an area of the page exactly where its copied bytes do. -/
theorem pageBytes_meet (hl : r.data.length = r.count) {lo hi : Nat} (hlt : lo < hi) (hle : hi ≤ 16384) :
    (decide (0 < (pageBytes s r).length) &&
      rangesMeet (pageOffset s r) (pageOffset s r + (pageBytes s r).length) lo hi) =
      rangesMeet r.addr.toNat (r.addr.toNat + r.count) (pageBase s + lo) (pageBase s + hi) := by
  rw [pageBytes_length s hl, pageOffset, Bool.eq_iff_iff]
  simp only [rangesMeet, Bool.and_eq_true, decide_eq_true_eq]
  omega

/-- The orders' side of the copy. -/
def shadowCopied (s : State) (r : Request) : State :=
  modOrders s fun o =>
    { o with
      shadow := copyBytes o.shadow (pageOffset s r) (pageBytes s r)
      examDue := o.examDue || (decide (0 < (pageBytes s r).length) &&
        rangesMeet (pageOffset s r) (pageOffset s r + (pageBytes s r).length) 0x800 0x1000) }

theorem copyToShadow_eq (s : State) (r : Request) :
    copyToShadow s r =
      if (decide (0 < (pageBytes s r).length) &&
        rangesMeet (pageOffset s r) (pageOffset s r + (pageBytes s r).length) 0x40 0x44) = true then
        modReport (shadowCopied s r) fun u =>
          { u with consumerIn := u.consumerIn ++
              [BitVec.ofNat 32 (leNat (readBytes (copyBytes s.orders.shadow (pageOffset s r) (pageBytes s r)) 0x40 4))] }
      else shadowCopied s r := rfl

theorem copyToShadow_orders (s : State) (r : Request) : (copyToShadow s r).orders = (shadowCopied s r).orders := by
  rw [copyToShadow_eq]
  split <;> rfl

theorem shadowCopied_orders (hl : r.data.length = r.count) :
    (shadowCopied s r).orders = { s.orders with
      shadow := (copyToShadow s r).orders.shadow
      examDue := s.orders.examDue ||
        rangesMeet r.addr.toNat (r.addr.toNat + r.count) (pageBase s + 0x800) (pageBase s + 0x1000) } := by
  rw [← pageBytes_meet (s := s) hl (by decide) (by decide), copyToShadow_orders]
  rfl

theorem copyToShadow_consumerIn (hl : r.data.length = r.count) :
    (copyToShadow s r).report = { s.report with
      consumerIn := if rangesMeet r.addr.toNat (r.addr.toNat + r.count) (pageBase s + 0x40) (pageBase s + 0x44)
        then s.report.consumerIn ++ [BitVec.ofNat 32 (leNat (readBytes (copyToShadow s r).orders.shadow 0x40 4))]
        else s.report.consumerIn } := by
  rw [← pageBytes_meet (s := s) hl (by decide) (by decide), copyToShadow_orders, copyToShadow_eq]
  split <;> rfl

theorem quiet_copyToShadow (h : Quiet s t) : Quiet s (copyToShadow t r) where
  view := by
    obtain ⟨hlist, hprod, hcons, hflight⟩ := copyToShadow_report t r
    have henable : (copyToShadow t r).report.attnEnable = t.report.attnEnable := by
      rw [copyToShadow_eq]
      split <;> rfl
    exact (show ringView (copyToShadow t r) = ringView t by
      simp [ringView, hlist, hprod, hcons, hflight, henable]).trans h.view
  owed :=
    { win := fun w => by rw [getWin_congr (s := t) (by simp), h.owed.win]
      ctx := fun c => by rw [getCtx_congr (s := t) (by simp), h.owed.ctx]
      waiting := by simp [h.owed.waiting] }
  waitingDone := by
    rw [copyToShadow_orders]
    exact h.waitingDone

/-! ### Writes before COLLECTING (R46, R57) -/

theorem writeBay_bound {u : Touch} {c : CtxId} (hc : lookup s u.win u.bay = some c) (hi : (getCtx s c).isolated = false)
    (hsig : u.significant = true) : writeBay s l r u = writeBound s l r u c := by
  rw [writeBay, bayIsolated_of_lookup hc, hi, hsig, hc]
  rfl

theorem writeBay_unbound {u : Touch} (hc : lookup s u.win u.bay = none) (hsig : u.significant = true) :
    writeBay s l r u = writeUnbound s l r u := by
  rw [writeBay, bayIsolated_of_unbound hc, hsig, hc]
  rfl

theorem writeBay_insignificant {u : Touch} (hi : bayIsolated s u.win u.bay = false) (hsig : u.significant = false) :
    writeBay s l r u = forwardHead s l r none := by
  rw [writeBay, hi, hsig]
  rfl

theorem requestBuild_eq (b : Builder) (c : CtxId) :
    requestBuild b c = if b.building.isNone then { b with building := some c } else { b with queue := b.queue ++ [c] } := by
  unfold requestBuild
  split
  next h => simp [h]
  next h => simp [h]

theorem reduce_key (k : Word64) : reduce k.toNat = k.toNat % P := reduce_eq_mod (reductionIsTheResidue.2.1 k)

theorem bindContext_eq (s : State) (c : CtxId) (w : WinId) (bay key : Nat) (len : Option Nat) (objId : Option Word64) :
    bindContext s c w bay key len objId = { s with
      serial := s.serial + 1
      builder := if s.builder.building.isNone then { s.builder with building := some c }
        else { s.builder with queue := s.builder.queue ++ [c] }
      windows := s.windows.set w.val
        { getWin s w with
          bound := (getWin s w).bound + 1
          counters := { (getWin s w).counters with
            opened := min ((getWin s w).counters.opened + 1) 4294967295 } } w.isLt
      ctxs := s.ctxs.set c.val
        { Context.free with
          state := .priming
          binding := some { number := s.serial + 1, win := w, bay := bay, key := key }
          len := len, objId := objId } c.isLt } := by
  rw [← requestBuild_eq]
  rfl

/-- A binding of a FREE context owes nothing more. -/
theorem quiet_bindContext {c : CtxId} (hc : (getCtx s c).owed = 0) (w : WinId) (bay key : Nat) (len : Option Nat)
    (objId : Option Word64) : Quiet s (bindContext s c w bay key len objId) :=
  ⟨by simp [ringView], ⟨owes_of_set rfl rfl, owed_of_set rfl hc.symm, by simp⟩, by simp⟩

theorem Quiet.trans {u : State} (h : Quiet s t) (k : Quiet t u) : Quiet s u :=
  ⟨k.view.trans h.view, ⟨fun w => (k.owed.win w).trans (h.owed.win w), fun c => (k.owed.ctx c).trans (h.owed.ctx c),
    k.owed.waiting.trans h.owed.waiting⟩, k.waitingDone.trans h.waitingDone⟩

end Sys2Proof.Machine

open Sys2Proof Sys2Proof.Machine

/-- Settles O10. -/
theorem conflictHoldOrPlainForward : Obligations.ConflictHoldOrPlainForward := by
  intro l r s hs hrun ha
  refine ⟨fun hc => ?_, fun hc hclass => ?_⟩
  · have hheld : treatHead s l r = { s with
        lanes := headHeld s l r .conflict
        counters := { s.counters with conflictHolds := min (s.counters.conflictHolds + 1) 4294967295 } } := by
      rw [treatHead, if_pos hc]
      rfl
    rw [execHeadEvent_running hrun ha, hheld]
    exact congrArg Host.Outcome.next (Quiet.settle (.of_eq rfl rfl rfl rfl rfl) hs)
  · refine execHeadEvent_quiet hs ⟨hrun, ha, hc⟩ ?_ (.of_eq rfl rfl rfl rfl rfl)
    rw [← forwardHead_eq, treatClass]
    rcases hclass with h | ⟨h, hk⟩
    · rw [h]
    · rw [h, hk]

/-- Settles O17. -/
theorem isolationAndReadFence : Obligations.IsolationAndReadFence := by
  intro l r t s hs hdue
  refine ⟨fun h hi => ?_, fun hk h hi hp => ?_, fun hk h hf hi => ⟨fun hfound => ?_, fun c hc hfound => ?_, fun hfound => ?_⟩,
    fun ts hk h => ?_⟩
  · refine execHeadEvent_quiet hs hdue ?_ (.of_eq rfl rfl rfl rfl rfl)
    rw [← partAnswer_eq]
    cases hk : r.kind with
    | read => rw [treatClass_read h hk, readBay, if_pos hi]
    | write => rw [treatClass_write h hk, writeBay, if_pos hi]
  · refine execHeadEvent_quiet hs hdue ?_ (.of_eq rfl rfl rfl rfl rfl)
    rw [← forwardHead_eq, treatClass_read h hk, readBay_forwarded hi hp]
  · refine execHeadEvent_quiet hs hdue ?_ (.of_eq rfl rfl rfl rfl rfl)
    rw [treatClass_read (h.imp_right .inr) hk, readBay_fenced h hf hi, fencedRead_refused hfound, refuseRead_eq]
  · refine execHeadEvent_quiet hs hdue ?_ (.of_eq rfl rfl rfl rfl rfl)
    rw [treatClass_read (h.imp_right .inr) hk, readBay_fenced h hf hi, fencedRead_held hc hfound]
    rfl
  · refine execHeadEvent_quiet hs hdue ?_ (.of_eq rfl rfl rfl rfl rfl)
    rw [← forwardHead_eq, treatClass_read (h.imp_right .inr) hk, readBay_fenced h hf hi, fencedRead_verified hfound]
  · refine ⟨straddleRead s l r ts, execHeadEvent_quiet hs hdue (treatClass_straddleRead h hk) (quiet_straddleRead ts), ?_⟩
    dsimp only
    unfold straddleRead countStraddleRead
    cases ts.any fun t => bayIsolated s t.win t.bay with
    | true => exact ⟨getWin_countWindows (partAnswer s l r) ts _, by simp [partAnswer_eq]⟩
    | false => exact ⟨getWin_countWindows (forwardHead s l r none) ts _, by simp [forwardHead_eq]⟩

/-- Settles O11. -/
theorem controlWriteCopiesItsBytes : Obligations.ControlWriteCopiesItsBytes := by
  intro l r s hs hdue hwf hc hk hl
  refine ⟨copyToShadow (forwardHead s l r none) r, execHeadEvent_quiet hs hdue (treatClass_controlWrite hc hk)
    (quiet_copyToShadow (.of_eq rfl rfl rfl rfl rfl)), readByte_copyToShadow (s := forwardHead s l r none) hwf hl,
    (copyToShadow_orders _ r).trans (shadowCopied_orders (s := forwardHead s l r none) hl),
    copyToShadow_consumerIn (s := forwardHead s l r none) hl, ?_⟩
  simp [forwardHead_eq, trackSide, clockSide]

/-- Settles O14. -/
theorem writesBeforeCollecting : Obligations.WritesBeforeCollecting := by
  intro l r u s hs hacc hdue hk hone hsig
  refine ⟨fun c hc hst hi => ?_, fun hc ha hd ho => ⟨fun c hfree => ?_, fun hfree => ?_⟩, fun hc hn => ?_⟩
  · refine execHeadEvent_quiet hs hdue ?_ (.of_eq rfl rfl rfl rfl rfl)
    rw [treatClass_write hone hk, writeBay_bound hc hi hsig, writeBound, hst, holdPriming_eq]
  · have hown : (getCtx s c).owed = 0 := by
      rw [(hacc c).2.1 (free_of_lowestFree hfree)]
      rfl
    have hopen : treatClass s l r =
        holdPriming (bindContext s c u.win u.bay (u.d.defaultKey.toNat % P) none none) l r := by
      rw [treatClass_write hone hk, writeBay_unbound hc hsig, writeUnbound, if_pos ⟨ha, hd, ho⟩, hfree, chosenKey, if_pos rfl,
        reduce_key]
    rw [holdPriming_eq] at hopen
    rw [execHeadEvent_quiet hs hdue hopen
      ((quiet_bindContext hown u.win u.bay (u.d.defaultKey.toNat % P) none none).trans (.of_eq rfl rfl rfl rfl rfl)),
      bindContext_eq]
    rfl
  · refine execHeadEvent_quiet hs hdue ?_ ⟨rfl, ⟨owes_of_set rfl rfl, fun _ => rfl, rfl⟩, rfl⟩
    rw [treatClass_write hone hk, writeBay_unbound hc hsig, writeUnbound, if_pos ⟨ha, hd, ho⟩, hfree]
    rfl
  · refine execHeadEvent_quiet hs hdue ?_ ⟨rfl, ⟨owes_of_set rfl rfl, fun _ => rfl, rfl⟩, rfl⟩
    rw [treatClass_write hone hk, writeBay_unbound hc hsig, writeUnbound, if_neg fun h => ?_]
    · rfl
    · rcases hn with hn | hn | hn
      · exact hn h.1
      · exact absurd (h.2.1.symm.trans hn) (by simp)
      · exact absurd (hn.symm.trans h.2.2) (by simp)
end

section
/-! The close of an event after which an ORDER-DONE at most is owed (R165, R166, R170, R171), and what it makes of the
taking of an order. -/

set_option Elab.async false

namespace Sys2Proof.Machine

variable {s t x : State}

/-! ### The close of an event -/

theorem firstOwed_orderDone (h : anyOwed s = false) : firstOwed s = s.orders.waitingDone.map .orderDone := by
  cases hw : s.orders.waitingDone with
  | none => exact firstOwed_none h hw
  | some d =>
    obtain ⟨hwin, hctx, hsweep⟩ := (anyOwed_eq_false_iff s).mp h
    have hwins : allWins.findSome? (owedOfWindow s) = none := by
      rw [List.findSome?_eq_none_iff]
      intro w _
      have hw := hwin w
      simp only [Window.owes, Prod.mk.injEq] at hw
      simp [owedOfWindow, hw]
    have hctxs : (allCtxs.find? fun c => decide (0 < (getCtx s c).owed)) = none := by
      rw [List.find?_eq_none]
      intro c _
      simp [hctx c]
    rw [firstOwed, hwins, hctxs, hsweep, hw]

/-- The state after the front record has left the pending list, where an ORDER-DONE at most is owed. -/
def recordLeft (x : State) (r : Record) (rest : List Record) : State :=
  { x with
    report := appendRecords { x.report with list := rest, inFlight := some r } x.orders.waitingDone.toList
    orders := { x.orders with waitingDone := none }
    port := { x.port with q3 := x.port.q3 ++ [recordWrite x r] } }

theorem orders_of_not_waiting (h : x.orders.waitingDone = none) : { x.orders with waitingDone := none } = x.orders := by
  rw [← h]

theorem grantRoom_orderDone (n : Nat) (ho : anyOwed x = false)
    (hl : x.orders.waitingDone.isSome = true → x.report.list.length + 1 ≤ 32) :
    grantRoom (n + 2) x = { x with
      report := appendRecords x.report x.orders.waitingDone.toList
      orders := { x.orders with waitingDone := none } } := by
  have hfirst := firstOwed_orderDone ho
  cases hw : x.orders.waitingDone with
  | none =>
    rw [hw] at hfirst
    rw [grantRoom_of_nothing hfirst, orders_of_not_waiting hw]
    rfl
  | some d =>
    rw [hw] at hfirst hl
    have hgranted : firstOwed (grantItem x (.orderDone d)) = none := firstOwed_none (by
      have hsame : SameOwed x (grantItem x (.orderDone d)) := ⟨fun _ => rfl, fun _ => rfl, rfl⟩
      rw [hsame.anyOwed, ho]) rfl
    rw [grantRoom, hfirst]
    simp only [Option.map_some]
    rw [if_pos (by simpa [OwedItem.size, Config.pendingMax] using hl rfl), grantRoom_of_nothing hgranted]
    rfl

/-- R171, R170: what the record that leaves the list leaves behind, where an ORDER-DONE at most is owed. -/
theorem drain_cases (ho : anyOwed x = false) (hl : x.orders.waitingDone.isSome = true → x.report.list.length ≤ 32) :
    drain x = x ∨ ∃ r rest, x.report.list = r :: rest ∧ x.report.inFlight = none ∧ drain x = recordLeft x r rest := by
  unfold drain
  split
  next => exact .inl rfl
  next r rest hlist =>
    split
    next hm =>
      refine .inr ⟨r, rest, hlist, ?_, ?_⟩
      · simp only [mayLeave, Bool.and_eq_true, Option.isNone_iff_eq_none] at hm
        exact hm.1.2
      · have hsame : SameOwed x (enqueue3 (modReport x fun u => { u with list := rest, inFlight := some r })
            [recordWrite x r]) := ⟨fun _ => rfl, fun _ => rfl, rfl⟩
        refine grantRoom_orderDone 31 (by rw [hsame.anyOwed, ho]) fun h => ?_
        have hlen := hl h
        rw [hlist, List.length_cons] at hlen
        exact hlen
    next => exact .inl rfl

/-- What the close of an event makes of its state, where an ORDER-DONE at most is owed. -/
structure Closed (x t : State) : Prop where
  reported : reported t = reported x
  seq : t.report.seq + BitVec.ofNat 32 t.orders.waitingDone.toList.length =
    x.report.seq + BitVec.ofNat 32 x.orders.waitingDone.toList.length
  waits : x.orders.waitingDone = none → t.orders.waitingDone = none
  orders : t.orders = { x.orders with waitingDone := t.orders.waitingDone, examDue := t.orders.examDue }
  engine : t.engine = { x.engine with attn := attnLevel t }
  attn : attnLevel t = attnLevel x
  port : t.port = { x.port with q3 := x.port.q3 ++ ringWrites x t }
  ring : ringSide t = ringSide x
  lane : laneSide t = laneSide x
  track : trackSide t = trackSide x
  clock : clockSide t = clockSide x

theorem ringWrites_same (h : t.report.inFlight = s.report.inFlight) : ringWrites s t = [] := by
  rw [ringWrites, h]
  cases s.report.inFlight <;> rfl

theorem drain_closed (ho : anyOwed x = false) (hl : x.orders.waitingDone.isSome = true → x.report.list.length ≤ 32) :
    Closed x (evalAttn (drain x)) := by
  rcases drain_cases ho hl with h | ⟨r, rest, hlist, hflight, h⟩ <;> rw [h]
  · have hnone : ringWrites x (evalAttn x) = [] := ringWrites_same rfl
    exact ⟨rfl, rfl, id, rfl, rfl, rfl, by rw [hnone, List.append_nil]; rfl, rfl, rfl, rfl, rfl⟩
  · have hrest := appendRecords_rest { x.report with list := rest, inFlight := some r } x.orders.waitingDone.toList
    have hside : ∀ {β : Type} (g : ReportUnit → β), (∀ u a b, g { u with list := a, seq := b } = g u) →
        g (evalAttn (recordLeft x r rest)).report = g { x.report with list := rest, inFlight := some r } :=
      fun g hg => by
        rw [show (evalAttn (recordLeft x r rest)).report = _ from hrest]
        exact hg _ _ _
    have hfl : (evalAttn (recordLeft x r rest)).report.inFlight = some r := hside ReportUnit.inFlight fun _ _ _ => rfl
    exact
      { reported := by
          simp only [reported, hfl, hflight, hlist]
          have hmap := appendRecords_map { x.report with list := rest, inFlight := some r } x.orders.waitingDone.toList
          rw [show (evalAttn (recordLeft x r rest)).report.list.map (·.body) = _ from hmap]
          simp [evalAttn, recordLeft]
        seq := by
          have hseq := appendRecords_seq { x.report with list := rest, inFlight := some r } x.orders.waitingDone.toList
          rw [show (evalAttn (recordLeft x r rest)).report.seq = _ from hseq]
          simp [evalAttn, recordLeft]
        waits := fun _ => rfl
        orders := rfl
        engine := rfl
        attn := by
          have h1 := hside ReportUnit.attnEnable fun _ _ _ => rfl
          have h2 := hside ReportUnit.producer fun _ _ _ => rfl
          have h3 := hside ReportUnit.consumer fun _ _ _ => rfl
          simp only [attnLevel, unconsumed, isRunning, h1, h2, h3]
          rfl
        port := by
          have hw : ringWrites x (evalAttn (recordLeft x r rest)) = [recordWrite x r] := by
            rw [ringWrites, hflight, hfl]
          rw [hw]
          rfl
        ring := by
          have h1 := hside (fun u => ((u.producer, u.consumer, u.badConsumer, u.attnEnable),
            (u.snapWriting, u.snapRepeat, u.snapNumber), u.consumerIn)) fun _ _ _ => rfl
          exact h1
        lane := rfl
        track := rfl
        clock := rfl }

theorem Closed.noteAble {b : Bool} (h : Closed x t) : Closed x (noteAble b t) := by
  unfold Machine.noteAble
  split
  · exact ⟨h.reported, h.seq, h.waits, by rw [modOrders_orders]; rw [h.orders], h.engine, h.attn, h.port, h.ring, h.lane,
      h.track, h.clock⟩
  · exact h

theorem settle_closed (b : State) (ho : anyOwed x = false)
    (hl : x.orders.waitingDone.isSome = true → x.report.list.length ≤ 32) : Closed x (settle b x) :=
  (drain_closed ho hl).noteAble

theorem settle_examDue (b : State) (h : x.orders.examDue = true) (ho : anyOwed x = false)
    (hl : x.orders.waitingDone.isSome = true → x.report.list.length ≤ 32) : (settle b x).orders.examDue = true := by
  have hd : (evalAttn (drain x)).orders.examDue = true := by
    rcases drain_cases ho hl with hx | ⟨r, rest, -, -, hx⟩ <;> rw [hx] <;> exact h
  unfold settle noteAble
  split
  · rfl
  · exact hd

/-- An Order Unit that was able before the event is not due an examination by its close. -/
theorem settle_orders {b : State} (hb : able b = true) (hw : x.orders.waitingDone = none) (ho : anyOwed x = false) :
    (settle b x).orders = x.orders := by
  have hd : (evalAttn (drain x)).orders = x.orders := by
    rcases drain_cases ho (by rw [hw]; simp) with hx | ⟨r, rest, -, -, hx⟩ <;> rw [hx]
    · rfl
    · exact orders_of_not_waiting hw
  rw [settle, noteAble_of_able fun _ => hb, hd]

/-! ### The taking of an order (R165, R166) -/

/-- What the close of an order's event makes of the state after the order's effects. -/
structure OrderClosed (x : State) (d : Report) (t : State) : Prop where
  reported : reported t = reported x ++ [d]
  seq : t.report.seq + BitVec.ofNat 32 t.orders.waitingDone.toList.length = x.report.seq + 1
  shadow : t.orders.shadow = x.orders.shadow
  slot : t.orders.slot = x.orders.slot + 1
  lap : t.orders.lap = if x.orders.slot = 63 then 3 - x.orders.lap else x.orders.lap
  examDue : t.orders.examDue = true
  engine : t.engine = { x.engine with attn := attnLevel t }
  port : t.port = { x.port with q3 := x.port.q3 ++ ringWrites x t }
  ring : ringSide t = ringSide x
  lane : laneSide t = laneSide x
  track : trackSide t = trackSide x
  clock : clockSide t = clockSide x

theorem hasRoom_iff (n : Nat) : hasRoom s n = true ↔ s.report.list.length + n ≤ 32 ∧ anyOwed s = false := by
  simp only [hasRoom, Bool.and_eq_true, decide_eq_true_eq, Bool.not_eq_true']
  exact Iff.rfl

/-- A side of the report that no record enters. -/
theorem build_side {β : Type} (g : ReportUnit → β) (hg : ∀ u a b, g { u with list := a, seq := b } = g u) (rs : List Report) :
    g (build x rs).report = g x.report := by
  rw [show (build x rs).report = _ from appendRecords_rest x.report rs]
  exact hg _ _ _

theorem ringSide_build (rs : List Report) : ringSide (build x rs) = ringSide x :=
  build_side (fun u => ((u.producer, u.consumer, u.badConsumer, u.attnEnable),
    (u.snapWriting, u.snapRepeat, u.snapNumber), u.consumerIn)) (fun _ _ _ => rfl) rs

theorem inFlight_build (rs : List Report) : (build x rs).report.inFlight = x.report.inFlight :=
  build_side ReportUnit.inFlight (fun _ _ _ => rfl) rs

theorem producer_build (rs : List Report) : (build x rs).report.producer = x.report.producer :=
  build_side ReportUnit.producer (fun _ _ _ => rfl) rs

theorem reported_build (rs : List Report) (h : x.orders.waitingDone = none) :
    reported (build x rs) = reported x ++ rs := by
  obtain ⟨hmap, -, -⟩ := build_report x rs
  simp [reported, inFlight_build, hmap, h]

theorem sameOwed_build (x : State) (rs : List Report) : SameOwed x (build x rs) :=
  ⟨fun _ => by rw [getWin_congr (s := x) (by simp)], fun _ => by rw [getCtx_congr (s := x) (by simp)], by simp⟩

theorem ringWrites_congr {y : State} (hf : y.report.inFlight = x.report.inFlight)
    (hp : y.report.producer = x.report.producer) (hc : y.engine.cpb = x.engine.cpb) : ringWrites y t = ringWrites x t := by
  have hw : ∀ r, recordWrite y r = recordWrite x r := fun r => by
    simp only [recordWrite, pageAddr, pageBase, hp, hc]
  simp only [ringWrites, hf, hw]

theorem takeOrder_closed {f : Order → State → State × Done} {o : Order} (hw : (f o (clearDue s)).1.orders.waitingDone = none)
    (ho : anyOwed (f o (clearDue s)).1 = false) (hl : (f o (clearDue s)).1.report.list.length ≤ 32) :
    OrderClosed (f o (clearDue s)).1 (doneReport o (f o (clearDue s)).2) (takeOrder f o s) := by
  rw [takeOrder]
  generalize f o (clearDue s) = y at *
  obtain ⟨x, d⟩ := y
  dsimp only at *
  unfold handOrderDone
  split
  next hr =>
    have hbuilt := sameOwed_build x [doneReport o d]
    have hsame : SameOwed x (modOrders (build x [doneReport o d]) advanceSlot) := ⟨hbuilt.win, hbuilt.ctx, hbuilt.waiting⟩
    have howed : anyOwed (modOrders (build x [doneReport o d]) advanceSlot) = false := by rw [hsame.anyOwed, ho]
    have hwait : (modOrders (build x [doneReport o d]) advanceSlot).orders.waitingDone = none := by simp [advanceSlot, hw]
    have hnone : ¬ (modOrders (build x [doneReport o d]) advanceSlot).orders.waitingDone.isSome = true := by
      rw [hwait]
      simp
    have hc := settle_closed (x := modOrders (build x [doneReport o d]) advanceSlot) s howed fun h => absurd h hnone
    have hlen := (build_report x [doneReport o d]).2.1
    exact
      { reported := by rw [hc.reported, ← reported_build _ hw]; rfl
        seq := by rw [hc.seq, hwait]; simp [hlen]
        shadow := by rw [hc.orders]; simp [advanceSlot]
        slot := by rw [hc.orders]; simp [advanceSlot]
        lap := by rw [hc.orders]; simp [advanceSlot]
        examDue := settle_examDue s rfl howed fun h => absurd h hnone
        engine := by rw [hc.engine, hc.attn]; simp
        port := by
          rw [hc.port, ringWrites_congr (x := x) (y := modOrders (build x [doneReport o d]) advanceSlot)
            (inFlight_build _) (producer_build _) (by simp)]
          simp
        ring := hc.ring.trans (ringSide_build _)
        lane := hc.lane.trans (by simp [laneSide])
        track := hc.track.trans (by simp [trackSide])
        clock := hc.clock.trans (by simp [clockSide]) }
  next hr =>
    have hsame : SameOwed x (modOrders (modOrders x fun u => { u with waitingDone := some (doneReport o d) }) advanceSlot) :=
      ⟨fun _ => rfl, fun _ => rfl, rfl⟩
    have howed := hsame.anyOwed.trans ho
    have hc := settle_closed
      (x := modOrders (modOrders x fun u => { u with waitingDone := some (doneReport o d) }) advanceSlot) s howed fun _ => hl
    exact
      { reported := by rw [hc.reported]; simp [reported, advanceSlot, hw]
        seq := by rw [hc.seq]; rfl
        shadow := by rw [hc.orders]; rfl
        slot := by rw [hc.orders]; rfl
        lap := by rw [hc.orders]; rfl
        examDue := settle_examDue s rfl howed fun _ => hl
        engine := by rw [hc.engine, hc.attn]; rfl
        port := hc.port
        ring := hc.ring
        lane := hc.lane
        track := hc.track
        clock := hc.clock }

/-! ### What an able Order Unit's state is -/

theorem able_spec (h : able s = true) : s.engine.state = .running ∧ s.orders.waitingDone = none ∧
    s.report.list.length < 32 ∧ anyOwed s = false := by
  simp only [able, isRunning, Bool.and_eq_true, decide_eq_true_eq, Bool.not_eq_true', Option.isNone_iff_eq_none] at h
  obtain ⟨⟨⟨hrun, hw⟩, hl⟩, ho⟩ := h
  exact ⟨hrun, hw, hl, ho⟩

theorem able_of_room {n : Nat} (hrun : s.engine.state = .running) (hn : nothingOwed s = true)
    (hl : s.report.list.length + n ≤ 32) (hpos : 0 < n) : able s = true := by
  simp only [nothingOwed, Bool.and_eq_true, Bool.not_eq_true', Option.isNone_iff_eq_none] at hn
  have hlt : s.report.list.length < 32 := by omega
  simp [able, isRunning, Config.pendingMax, hrun, hn, hlt]

theorem OrderFound.able {o : Order} (h : OrderFound s o) : able s = true := foundOrder_able h.2

/-- What an order's own effects leave for the close of its event: the records they report, and the requests they hand
over. -/
structure OrderLeaves (s x : State) (rs : List Report) (blocks : List MemReq) : Prop where
  reported : reported x = reported s ++ rs
  seq : x.report.seq = s.report.seq + BitVec.ofNat 32 rs.length
  length : x.report.list.length ≤ 32
  owed : anyOwed x = false
  orders : x.orders = (clearDue s).orders
  engine : x.engine = s.engine
  inFlight : x.report.inFlight = s.report.inFlight
  producer : x.report.producer = s.report.producer
  port : x.port = { s.port with q3 := s.port.q3 ++ blocks }

/-- R165, R166: what is left of an order that is taken from `s`, told from a state `u` whose Order Unit is that of `s`. -/
theorem takeOrder_took {u : State} {f : Order → State → State × Done} {o : Order} {rs : List Report} {blocks : List MemReq}
    {y : State} {d : Done} (h : OrderFound s o) (hu : u.orders = s.orders) (hf : f o (clearDue s) = (y, d))
    (hy : OrderLeaves u y rs blocks) :
    TookOrder u (takeOrder f o s) (rs ++ [doneReport o d]) blocks ∧ ringSide (takeOrder f o s) = ringSide y ∧
      laneSide (takeOrder f o s) = laneSide y ∧ trackSide (takeOrder f o s) = trackSide y ∧
      clockSide (takeOrder f o s) = clockSide y := by
  obtain ⟨-, hwait, -, -⟩ := able_spec h.able
  have hw : y.orders.waitingDone = none := by
    rw [hy.orders]
    exact (congrArg OrderUnit.waitingDone hu).trans hwait
  have hc := takeOrder_closed (s := s) (f := f) (o := o) (by rw [hf]; exact hw) (by rw [hf]; exact hy.owed)
    (by rw [hf]; exact hy.length)
  rw [hf] at hc
  refine ⟨⟨?_, ?_, ?_, ?_, ?_, hc.examDue, ?_, ?_⟩, hc.ring, hc.lane, hc.track, hc.clock⟩
  · rw [hc.reported, hy.reported, List.append_assoc]
  · rw [hc.seq, hy.seq, List.length_append, BitVec.ofNat_add, BitVec.add_assoc]
    rfl
  · rw [hc.shadow, hy.orders]
    rfl
  · rw [hc.slot, hy.orders]
    rfl
  · rw [hc.lap, hy.orders]
    rfl
  · rw [hc.engine, hy.engine]
  · rw [hc.port, hy.port, ringWrites_congr hy.inFlight hy.producer (by rw [hy.engine])]

/-- Effects that report nothing, told by what they leave of the Report Unit. -/
theorem orderLeaves_quiet {o : Order} {y : State} {blocks : List MemReq} (h : OrderFound s o) (hl : y.report.list = s.report.list)
    (hq : y.report.seq = s.report.seq) (hf : y.report.inFlight = s.report.inFlight)
    (hp : y.report.producer = s.report.producer) (ho : SameOwed s y) (hor : y.orders = (clearDue s).orders)
    (he : y.engine = s.engine) (hport : y.port = { s.port with q3 := s.port.q3 ++ blocks }) : OrderLeaves s y [] blocks := by
  obtain ⟨-, -, hlen, hown⟩ := able_spec h.able
  exact
    { reported := by simp [reported, hl, hf, hor, clearDue]
      seq := by rw [hq]; simp
      length := by rw [hl]; exact hlen.le
      owed := ho.anyOwed.trans hown
      orders := hor
      engine := he
      inFlight := hf
      producer := hp
      port := hport }

/-- Effects that leave the Report Unit, the orders and the port alone. -/
theorem orderLeaves_of_eq {o : Order} {y : State} (h : OrderFound s o) (hr : y.report = s.report) (ho : SameOwed s y)
    (hor : y.orders = (clearDue s).orders) (he : y.engine = s.engine) (hport : y.port = s.port) : OrderLeaves s y [] [] :=
  orderLeaves_quiet h (by rw [hr]) (by rw [hr]) (by rw [hr]) (by rw [hr]) ho hor he (by rw [hport, List.append_nil])

/-- An order without effects is answered alone. -/
theorem orderLeaves_same {o : Order} (h : OrderFound s o) : OrderLeaves s (clearDue s) [] [] :=
  orderLeaves_of_eq h rfl ⟨fun _ => rfl, fun _ => rfl, rfl⟩ rfl rfl rfl

theorem takeOrder_answered {f : Order → State → State × Done} {o : Order} {st : Status} (h : OrderFound s o)
    (hf : f o (clearDue s) = (clearDue s, plain st)) : AnsweredOnly s (takeOrder f o s) o st :=
  takeOrder_took h rfl hf (orderLeaves_same h)

theorem takeCoded_found {q : Byte → Bool} {f : Order → State → State × Done} {o : Order} (h : OrderFound s o)
    (hq : q o.code = true) : takeCoded q f s = .next (takeOrder f o s) := by
  rw [takeCoded, if_pos h.1, h.2]
  exact if_pos hq

end Sys2Proof.Machine
end

section
/-! The orders that report nothing but their ORDER-DONE, and those of the sweeper and of the snapshot. -/

set_option Elab.async false

namespace Sys2Proof.Machine

variable {s t x : State} {o : Order} {w : WinId}

/-! ### An examination (R165) -/

/-- The Order Unit but for its waiting ORDER-DONE. -/
def orderRest (s : State) : OrderUnit := { s.orders with waitingDone := none }

theorem orderRest_congr (h : t.orders = s.orders) : orderRest t = orderRest s := by rw [orderRest, orderRest, h]

theorem orderRest_grantItem (i : OwedItem) : orderRest (grantItem s i) = orderRest s := by
  cases i with
  | transfer c =>
    simp only [grantItem]
    cases owedFinal (getCtx s c) <;> rfl
  | _ => rfl

theorem orderRest_grantRoom (n : Nat) : orderRest (grantRoom n s) = orderRest s := by
  induction n generalizing s with
  | zero => rfl
  | succ n ih =>
    unfold grantRoom
    split
    · rfl
    · split
      · rw [ih, orderRest_grantItem]
      · rfl

theorem orderRest_drain (s : State) : orderRest (drain s) = orderRest s := by
  unfold drain
  split
  · rfl
  · split
    · exact orderRest_grantRoom _
    · rfl

/-- The close of an event takes no order: it may only make an examination due. -/
theorem orders_settle (b s : State) :
    (settle b s).orders.slot = s.orders.slot ∧ (settle b s).orders.lap = s.orders.lap ∧
    (settle b s).orders.shadow = s.orders.shadow ∧ (s.orders.examDue = true → (settle b s).orders.examDue = true) := by
  have hrest : orderRest (evalAttn (drain s)) = orderRest s := orderRest_drain s
  simp only [orderRest, OrderUnit.mk.injEq] at hrest
  obtain ⟨hshadow, hslot, hlap, hdue, -⟩ := hrest
  unfold settle noteAble
  split
  · exact ⟨hslot, hlap, hshadow, fun _ => rfl⟩
  · exact ⟨hslot, hlap, hshadow, fun h => hdue.trans h⟩

/-! ### No order's effects touch the Order Unit (R165) -/

@[simp] theorem placeDefinition_orders (s : State) (w : WinId) (d : TakenDef) : (placeDefinition s w d).1.orders = s.orders := by
  unfold placeDefinition
  split <;> simp

@[simp] theorem orderSetWindow_orders (o : Order) (s : State) : (orderSetWindow o s).1.orders = s.orders := by
  unfold orderSetWindow
  split
  · rfl
  · dsimp only
    split <;> simp

@[simp] theorem orderRelease_orders (o : Order) (s : State) : (orderRelease o s).1.orders = s.orders := by
  unfold orderRelease
  repeat' split
  all_goals rfl

@[simp] theorem openBay_orders (o : Order) (s : State) (w : WinId) (d : WinDef) : (openBay o s w d).1.orders = s.orders := by
  unfold openBay
  dsimp only
  repeat' split
  all_goals simp

@[simp] theorem orderOpen_orders (o : Order) (s : State) : (orderOpen o s).1.orders = s.orders := by
  unfold orderOpen
  split
  · rfl
  · split
    case h_4 => split <;> simp
    all_goals rfl

@[simp] theorem orderClose_orders (o : Order) (s : State) : (orderClose o s).1.orders = s.orders := by
  unfold orderClose
  split
  · rfl
  · split
    · simp [closeContext]
    · rfl

@[simp] theorem retireContext_orders (s : State) (w : WinId) (c : CtxId) : (retireContext s w c).orders = s.orders := by
  unfold retireContext
  dsimp only
  split <;> simp [ageTaken]

@[simp] theorem orderRetire_orders (o : Order) (s : State) : (orderRetire o s).1.orders = s.orders := by
  unfold orderRetire
  split
  · rfl
  · split
    · rfl
    · split <;> simp

@[simp] theorem orderClearAll_orders (o : Order) (s : State) : (orderClearAll o s).1.orders = s.orders := by
  obtain ⟨-, -, -, -, horders, -⟩ := clearedState_frame allLanes s
  rw [orderClearAll_fst, afterClearAll_unchanged State.orders (by simp) (by simp), horders]

@[simp] theorem orderRecheck_orders (o : Order) (s : State) : (orderRecheck o s).1.orders = s.orders := by
  unfold orderRecheck
  split
  · rfl
  · split
    · rfl
    · split
      · rfl
      · split
        · rfl
        · split
          · rfl
          · split <;> simp [startSweep]

@[simp] theorem orderStep_orders (o : Order) (s : State) : (orderStep o s).1.orders = s.orders := by
  unfold orderStep
  split <;> rfl

@[simp] theorem orderStopSweep_orders (o : Order) (s : State) : (orderStopSweep o s).1.orders = s.orders := by
  unfold orderStopSweep
  split <;> simp

@[simp] theorem orderSnapshot_orders (o : Order) (s : State) : (orderSnapshot o s).1.orders = s.orders := by
  simp [orderSnapshot]

theorem carryOut_orders (o : Order) (s : State) : (carryOut o s).1.orders = s.orders := by
  unfold carryOut
  repeat' split
  all_goals simp [orderSetEngine, orderUnknown]

theorem handOrderDone_orders (s : State) (r : Report) :
    (handOrderDone s r).orders = { s.orders with waitingDone := (handOrderDone s r).orders.waitingDone } := by
  unfold handOrderDone
  split <;> simp

/-- R165: the expected slot advances with the order that is taken, whatever its effects. -/
theorem takeOrder_orders {f : Order → State → State × Done} (hf : (f o (clearDue s)).1.orders = (clearDue s).orders) :
    (takeOrder f o s).orders.slot = s.orders.slot + 1 ∧
    (takeOrder f o s).orders.lap = (if s.orders.slot = 63 then 3 - s.orders.lap else s.orders.lap) ∧
    (takeOrder f o s).orders.examDue = true ∧ (takeOrder f o s).orders.shadow = s.orders.shadow := by
  obtain ⟨hslot, hlap, hshadow, hdue⟩ :=
    orders_settle s (modOrders (handOrderDone (f o (clearDue s)).1 (doneReport o (f o (clearDue s)).2)) advanceSlot)
  have hdone := handOrderDone_orders (f o (clearDue s)).1 (doneReport o (f o (clearDue s)).2)
  rw [modOrders_orders, hdone, hf] at hslot hlap hshadow
  exact ⟨hslot, hlap, hdue rfl, hshadow⟩

theorem takeOrder_congr {f g : Order → State → State × Done} (h : f o (clearDue s) = g o (clearDue s)) :
    takeOrder f o s = takeOrder g o s := by rw [takeOrder, takeOrder, h]

theorem execOrderExamination_found (h : OrderFound s o) : execOrderExamination s = .next (takeOrder carryOut o s) := by
  rw [execOrderExamination, if_pos h.1, h.2]

/-- R165: an examination that finds an order of a code is that code's command. -/
theorem examination_eq_coded {q : Byte → Bool} {f : Order → State → State × Done} (h : OrderFound s o)
    (hq : q o.code = true) (hf : carryOut o (clearDue s) = f o (clearDue s)) :
    execOrderExamination s = takeCoded q f s := by
  rw [execOrderExamination_found h, takeCoded_found h hq, takeOrder_congr hf]

theorem examination_eq_code {n : Byte} {f : Order → State → State × Done} (h : OrderFound s o) (hn : o.code = n)
    (hf : carryOut o (clearDue s) = f o (clearDue s)) :
    execOrderExamination s = takeCoded (fun c => decide (c = n)) f s := examination_eq_coded h (decide_eq_true hn) hf

theorem carryOut_unknown (h : 11 < o.code.toNat) : carryOut o s = orderUnknown o s := by
  have hne : ∀ n : Byte, n.toNat ≤ 11 → o.code ≠ n := fun n hn he => by
    rw [he] at h
    omega
  unfold carryOut
  iterate 11 rw [if_neg (hne _ (by decide))]

end Sys2Proof.Machine

open Sys2Proof Sys2Proof.Machine

/-- Settles O22: the command of a code carries out what the examination carries out for that code. -/
theorem examinationTakesTheOrder : Obligations.ExaminationTakesTheOrder := by
  intro s hrun
  refine ⟨fun hd hf => ?_, fun o hd hf => ?_⟩
  · simp only [exec, execOrderExamination, hd, if_pos, hf]
    rfl
  · have hfound : OrderFound s o := ⟨hd, hf⟩
    exact ⟨⟨_, execOrderExamination_found hfound, takeOrder_orders (carryOut_orders o (clearDue s))⟩,
      fun h => examination_eq_code (f := orderSetWindow) hfound h (by simp [carryOut, h]),
      fun h => examination_eq_code (f := orderRelease) hfound h (by simp [carryOut, h]),
      fun h => examination_eq_code (f := orderOpen) hfound h (by simp [carryOut, h]),
      fun h => examination_eq_code (f := orderClose) hfound h (by simp [carryOut, h]),
      fun h => examination_eq_code (f := orderRetire) hfound h (by simp [carryOut, h]),
      fun h => examination_eq_code (f := orderClearAll) hfound h (by simp [carryOut, h]),
      fun h => examination_eq_code (f := orderRecheck) hfound h (by simp [carryOut, h]),
      fun h => examination_eq_code (f := orderStep) hfound h (by simp [carryOut, h]),
      fun h => examination_eq_code (f := orderStopSweep) hfound h (by simp [carryOut, h]),
      fun h => examination_eq_code (f := orderSnapshot) hfound h (by simp [carryOut, h]),
      fun h => examination_eq_code (f := orderSetEngine) hfound h (by simp [carryOut, h]),
      fun h => examination_eq_coded (q := fun c => decide (11 < c.toNat)) hfound (decide_eq_true h) (carryOut_unknown h)⟩
end

section
/-! The orders that report nothing but their ORDER-DONE, those of the sweeper and of the snapshot, and the consumer's
values. -/

set_option Elab.async false

namespace Sys2Proof.Machine

variable {s t x : State} {o : Order} {w : WinId}

/-! ### Windows: SET-WINDOW and RELEASE (R31, R32, R36) -/

/-- One window's entry is replaced, its owed records staying. -/
theorem sameOwed_win {y : State} {e : Window} (h : y.windows = s.windows.set w.val e w.isLt)
    (he : e.owes = (getWin s w).owes) (hc : y.ctxs = s.ctxs) (hx : y.sweeper = s.sweeper) : SameOwed s y :=
  ⟨owes_of_set h he, fun c => by rw [getCtx_congr hc], by rw [hx]⟩

theorem stopSweepOf_other (h : s.sweeper.job.all (fun j => decide (j.win ≠ w)) = true) : stopSweepOf s w = s := by
  unfold stopSweepOf
  split
  next => rfl
  next j hj =>
    rw [hj] at h
    exact if_neg (of_decide_eq_true h)

theorem applyDef_other {d : TakenDef} (h : s.sweeper.job.all (fun j => decide (j.win ≠ w)) = true) :
    applyDef s w d = modWin s w fun e => appliedEntry e d := stopSweepOf_other (s := modWin s w fun e => appliedEntry e d) h

theorem takeCoded_code {n : Byte} {f : Order → State → State × Done} (h : OrderFound s o) (hn : o.code = n) :
    takeCoded (fun c => decide (c = n)) f s = .next (takeOrder f o s) := takeCoded_found h (decide_eq_true hn)

/-- The command of an order's code takes it. -/
theorem exec_setWindow (h : OrderFound s o) (hc : o.code = 1) :
    exec .setWindow s = .next (takeOrder orderSetWindow o s) := takeCoded_code (f := orderSetWindow) h hc

theorem exec_release (h : OrderFound s o) (hc : o.code = 2) :
    exec .release s = .next (takeOrder orderRelease o s) := takeCoded_code (f := orderRelease) h hc

theorem exec_openTransfer (h : OrderFound s o) (hc : o.code = 3) :
    exec .openTransfer s = .next (takeOrder orderOpen o s) := takeCoded_code (f := orderOpen) h hc

theorem exec_closeTransfer (h : OrderFound s o) (hc : o.code = 4) :
    exec .closeTransfer s = .next (takeOrder orderClose o s) := takeCoded_code (f := orderClose) h hc

theorem exec_retire (h : OrderFound s o) (hc : o.code = 5) :
    exec .retire s = .next (takeOrder orderRetire o s) := takeCoded_code (f := orderRetire) h hc

theorem exec_clearAll (h : OrderFound s o) (hc : o.code = 6) :
    exec .clearAll s = .next (takeOrder orderClearAll o s) := takeCoded_code (f := orderClearAll) h hc

theorem exec_recheck (h : OrderFound s o) (hc : o.code = 7) :
    exec .recheck s = .next (takeOrder orderRecheck o s) := takeCoded_code (f := orderRecheck) h hc

theorem exec_stepSweep (h : OrderFound s o) (hc : o.code = 8) :
    exec .stepSweep s = .next (takeOrder orderStep o s) := takeCoded_code (f := orderStep) h hc

theorem exec_stopSweep (h : OrderFound s o) (hc : o.code = 9) :
    exec .stopSweep s = .next (takeOrder orderStopSweep o s) := takeCoded_code (f := orderStopSweep) h hc

theorem exec_snapshot (h : OrderFound s o) (hc : o.code = 10) :
    exec .snapshot s = .next (takeOrder orderSnapshot o s) := takeCoded_code (f := orderSnapshot) h hc

theorem exec_setEngine (h : OrderFound s o) (hc : o.code = 11) :
    exec .setEngine s = .next (takeOrder orderSetEngine o s) := takeCoded_code (f := orderSetEngine) h hc

theorem exec_unknownOrder (h : OrderFound s o) (hc : 11 < o.code.toNat) :
    exec .unknownOrder s = .next (takeOrder orderUnknown o s) :=
  takeCoded_found (q := fun c => decide (11 < c.toNat)) (f := orderUnknown) h (decide_eq_true hc)

/-- An order that is answered alone. -/
theorem answers {f : Order → State → State × Done} {e : Host.Outcome State Fault Refusal} {st : Status}
    (h : OrderFound s o) (he : e = .next (takeOrder f o s)) (hf : f o (clearDue s) = (clearDue s, plain st)) :
    ∃ t : State, e = .next t ∧ AnsweredOnly s t o st := ⟨_, he, takeOrder_answered h hf⟩

theorem orderSetWindow_noWindow (h : o.window = none) : orderSetWindow o s = (s, plain .badWindow) := by
  simp [orderSetWindow, h]

theorem orderSetWindow_refused {st : Status} (h : o.window = some w)
    (hv : validate s w (takeDefinition (windowEntry s w)) = some st) : orderSetWindow o s = (s, plain st) := by
  simp [orderSetWindow, h, hv]

theorem orderSetWindow_placed {d : TakenDef} (h : o.window = some w) (hd : takeDefinition (windowEntry s w) = some d)
    (hv : validate s w (some d) = none) : orderSetWindow o s = placeDefinition s w d := by
  simp [orderSetWindow, h, hd, hv]

theorem placeDefinition_now {d : TakenDef} (h : (getWin s w).state = .off ∨ (getWin s w).bound = 0)
    (hj : s.sweeper.job.all (fun j => decide (j.win ≠ w)) = true) :
    placeDefinition s w d = (modWin s w fun e => appliedEntry e d, plain .done) := by
  rw [placeDefinition, if_pos h, applyDef_other hj]

theorem placeDefinition_later {d : TakenDef} (h : (getWin s w).state ≠ .off) (hb : (getWin s w).bound ≠ 0) :
    placeDefinition s w d = (modWin s w fun e => { e with staged := some d }, plain .staged) :=
  if_neg (not_or.mpr ⟨h, hb⟩)

/-- The sides of a state but for its windows. -/
theorem trackSide_windows {y : State} (h : trackSide t = trackSide y) : t.windows = y.windows ∧ t.ctxs = y.ctxs ∧
    t.serial = y.serial ∧ t.pool = y.pool ∧ t.builder = y.builder ∧ t.slots = y.slots ∧ t.fence = y.fence := by
  simpa [trackSide] using h

/-! ### OPEN's checks (R44) -/

theorem orderOpen_off (hw : o.window = some w) (h : (getWin s w).state = .off) :
    orderOpen o s = (s, plain .badWindow) := by simp [orderOpen, hw, h]

theorem orderOpen_fenced (hw : o.window = some w) (h : (getWin s w).state = .fenced) :
    orderOpen o s = (s, plain .fenced) := by simp [orderOpen, hw, h]

theorem orderOpen_active {d : WinDef} (hw : o.window = some w) (h : (getWin s w).state = .active)
    (hd : (getWin s w).defn = some d) :
    orderOpen o s = if (getWin s w).draining then (s, plain .draining) else openBay o s w d := by
  simp [orderOpen, hw, h, hd]

theorem leNat_lt (bs : List Byte) : leNat bs < 256 ^ bs.length := by
  induction bs with
  | nil => simp [leNat]
  | cons b rest ih =>
    rw [leNat, List.length_cons, pow_succ]
    have := b.isLt
    omega

theorem key_lt (o : Order) : o.key < 2 ^ 64 := by
  have hlt := leNat_lt ((o.body.drop 0).take 8)
  have hle : 256 ^ ((o.body.drop 0).take 8).length ≤ 256 ^ 8 :=
    Nat.pow_le_pow_right (by decide) (by simp)
  exact hlt.trans_le (hle.trans (by decide))

/-- R3: the key chosen, reduced. -/
theorem reduce_chosenKey (d : WinDef) (o : Order) :
    reduce (chosenKey d o.key) = (if o.key = 0 then d.defaultKey.toNat else o.key) % P := by
  unfold chosenKey
  split
  · exact reduce_key d.defaultKey
  · have hk := reduce_key (BitVec.ofNat 64 o.key)
    rwa [BitVec.toNat_ofNat, Nat.mod_eq_of_lt (key_lt o)] at hk

theorem openBay_bound {d : WinDef} (hb : o.bay < d.count) (hl : (lookup s w o.bay).isSome = true) :
    openBay o s w d = (s, plain .alreadyBound) := by
  simp only [openBay]
  rw [if_neg (Nat.not_le.mpr hb), if_pos hl]

theorem openBay_weak {d : WinDef} (hb : o.bay < d.count) (hl : lookup s w o.bay = none)
    (hk : (if o.key = 0 then d.defaultKey.toNat else o.key) % P = 0 ∨
      (if o.key = 0 then d.defaultKey.toNat else o.key) % P = 1 ∨
      (if o.key = 0 then d.defaultKey.toNat else o.key) % P = P - 1) : openBay o s w d = (s, plain .keyWeak) := by
  simp only [openBay]
  rw [if_neg (Nat.not_le.mpr hb), if_neg (by rw [hl]; simp), reduce_chosenKey,
    if_pos (show weakKey _ = true from decide_eq_true hk)]

/-- OPEN's check of the key is passed. -/
theorem strongKey {k : Nat} (hk1 : 2 ≤ k % P) (hk2 : k % P ≤ P - 2) : ¬ weakKey (k % P) = true := fun h => by
  have := of_decide_eq_true h
  omega

theorem openBay_long {d : WinDef} (hb : o.bay < d.count) (hl : lookup s w o.bay = none)
    (hk : ¬ weakKey ((if o.key = 0 then d.defaultKey.toNat else o.key) % P) = true)
    (hlen : o.length.any (fun n => decide (d.capacity < n)) = true) : openBay o s w d = (s, plain .range) := by
  simp only [openBay]
  rw [if_neg (Nat.not_le.mpr hb), if_neg (by rw [hl]; simp), reduce_chosenKey, if_neg hk, if_pos hlen]

theorem openBay_full {d : WinDef} (hb : o.bay < d.count) (hl : lookup s w o.bay = none)
    (hk : ¬ weakKey ((if o.key = 0 then d.defaultKey.toNat else o.key) % P) = true)
    (hlen : ¬ o.length.any (fun n => decide (d.capacity < n)) = true) (hf : lowestFree s = none) :
    openBay o s w d = (s, plain .tableFull) := by
  simp only [openBay, hf]
  rw [if_neg (Nat.not_le.mpr hb), if_neg (by rw [hl]; simp), reduce_chosenKey, if_neg hk, if_neg hlen]

theorem openBay_binds {d : WinDef} {c : CtxId} (hb : o.bay < d.count) (hl : lookup s w o.bay = none)
    (hk : ¬ weakKey ((if o.key = 0 then d.defaultKey.toNat else o.key) % P) = true)
    (hlen : ¬ o.length.any (fun n => decide (d.capacity < n)) = true) (hf : lowestFree s = some c) :
    openBay o s w d = (bindContext s c w o.bay ((if o.key = 0 then d.defaultKey.toNat else o.key) % P) o.length o.objId,
      { status := .done, ctx := some c, value := none }) := by
  simp only [openBay, hf]
  rw [if_neg (Nat.not_le.mpr hb), if_neg (by rw [hl]; simp), reduce_chosenKey, if_neg hk, if_neg hlen]

theorem lengthFits {n : Option Nat} {c : Nat} (h : n.all (fun k => decide (k ≤ c)) = true) :
    ¬ n.any (fun k => decide (c < k)) = true := by
  cases n with
  | none => simp
  | some k => simpa using h

end Sys2Proof.Machine

open Sys2Proof Sys2Proof.Machine

/-- Settles O23. -/
theorem setWindowAppliesOrStages : Obligations.SetWindowAppliesOrStages := by
  intro o s hf hcode
  have hexec := exec_setWindow hf hcode
  refine ⟨fun hw => answers hf hexec (orderSetWindow_noWindow hw),
    fun w hw => ⟨fun st hv => answers hf hexec (orderSetWindow_refused (s := clearDue s) hw hv),
      fun d hd hv => ⟨fun hnow hjob => ⟨_, hexec, ?_⟩, fun hoff hbound => ⟨_, hexec, ?_⟩⟩⟩⟩
  · have hplace := (orderSetWindow_placed (s := clearDue s) hw hd hv).trans (placeDefinition_now (s := clearDue s) hnow hjob)
    obtain ⟨htook, hring, hlane, htrack, hclock⟩ := takeOrder_took hf rfl hplace
      (orderLeaves_of_eq hf rfl (sameOwed_win rfl rfl rfl rfl) rfl rfl rfl)
    obtain ⟨hwin, hctx, hserial, hpool, hbuild, hslots, hfence⟩ := trackSide_windows htrack
    exact ⟨htook, hwin, hctx, hserial, hpool, hbuild, hslots, hfence, hring, hlane, hclock⟩
  · have hplace := (orderSetWindow_placed (s := clearDue s) hw hd hv).trans
      (placeDefinition_later (s := clearDue s) hoff hbound)
    obtain ⟨htook, hring, hlane, htrack, hclock⟩ := takeOrder_took hf rfl hplace
      (orderLeaves_of_eq hf rfl (sameOwed_win rfl rfl rfl rfl) rfl rfl rfl)
    obtain ⟨hwin, hctx, hserial, hpool, hbuild, hslots, hfence⟩ := trackSide_windows htrack
    exact ⟨htook, hwin, hctx, hserial, hpool, hbuild, hslots, hfence, hring, hlane, hclock⟩

/-- Settles O24. -/
theorem releaseReturnsAFencedWindow : Obligations.ReleaseReturnsAFencedWindow := by
  intro o s hf hcode
  have hexec := exec_release hf hcode
  refine ⟨fun hw => answers hf hexec (by simp [orderRelease, hw]), fun w hw => ⟨fun hst => ?_, fun hst => ⟨_, hexec, ?_⟩⟩⟩
  · refine answers hf hexec ?_
    rw [orderRelease, hw]
    exact if_neg hst
  · have hrel : orderRelease o (clearDue s) =
        (modWin (clearDue s) w fun e => { e with state := .active, strikes := 0 }, plain .done) := by
      rw [orderRelease, hw]
      exact if_pos hst
    obtain ⟨htook, hring, hlane, htrack, hclock⟩ := takeOrder_took hf rfl hrel
      (orderLeaves_of_eq hf rfl (sameOwed_win rfl rfl rfl rfl) rfl rfl rfl)
    obtain ⟨hwin, hctx, hserial, hpool, hbuild, hslots, hfence⟩ := trackSide_windows htrack
    exact ⟨htook, hwin, hctx, hserial, hpool, hbuild, hslots, hfence, hring, hlane, hclock⟩

/-- Settles O25: the checks in their order, and the binding. -/
theorem openBindsAContext : Obligations.OpenBindsAContext := by
  intro o s hf hcode
  have hexec := exec_openTransfer hf hcode
  refine ⟨fun hw => answers hf hexec (by simp [orderOpen, hw]), fun w hw => ⟨fun hst => ?_, fun hst => ?_,
    fun d hst hd => ⟨fun hdr => ?_, fun hdr => ⟨fun hb => ?_, fun hb hl => ?_, fun hb hl => ⟨fun hk => ?_,
      fun hk1 hk2 => ⟨fun hlen => ?_, fun hlen => ⟨fun hfree => ?_, fun c hfree => ⟨_, hexec, ?_⟩⟩⟩⟩⟩⟩⟩⟩
  · exact answers hf hexec (orderOpen_off (s := clearDue s) hw hst)
  · exact answers hf hexec (orderOpen_fenced (s := clearDue s) hw hst)
  · exact answers hf hexec ((orderOpen_active (s := clearDue s) hw hst hd).trans (if_pos hdr))
  all_goals
    have hbay : orderOpen o (clearDue s) = openBay o (clearDue s) w d :=
      (orderOpen_active (s := clearDue s) hw hst hd).trans (if_neg (by rw [show (getWin (clearDue s) w).draining = false from hdr]; simp))
  · exact answers hf hexec (hbay.trans (if_pos hb))
  · exact answers hf hexec (hbay.trans (openBay_bound (s := clearDue s) hb hl))
  · exact answers hf hexec (hbay.trans (openBay_weak (s := clearDue s) hb hl hk))
  · exact answers hf hexec (hbay.trans (openBay_long (s := clearDue s) hb hl (strongKey hk1 hk2) hlen))
  · exact answers hf hexec (hbay.trans (openBay_full (s := clearDue s) hb hl (strongKey hk1 hk2) (lengthFits hlen) hfree))
  · have hfit := hbay.trans (openBay_binds (s := clearDue s) hb hl (strongKey hk1 hk2) (lengthFits hlen) hfree)
    have hown : (getCtx s c).owed = 0 := able_owed hf.able c
    have hq := quiet_bindContext (s := clearDue s) hown w o.bay
      ((if o.key = 0 then d.defaultKey.toNat else o.key) % P) o.length o.objId
    obtain ⟨htook, hring, hlane, htrack, hclock⟩ := takeOrder_took hf rfl hfit
      (orderLeaves_of_eq hf (by simp [clearDue]) ⟨hq.owed.win, hq.owed.ctx, hq.owed.waiting⟩ (by simp) (by simp [clearDue]) (by simp [clearDue]))
    obtain ⟨hwin, hctx, hserial, hpool, hbuild, hslots, hfence⟩ := trackSide_windows htrack
    rw [bindContext_eq] at hwin hctx hserial hpool hbuild hslots hfence hring hlane hclock
    exact ⟨htook, hserial, hctx, hwin, hbuild, hpool, hslots, hfence, hring, hlane, hclock⟩
end

section
/-! The sweeper's orders, SNAPSHOT and SET-ENGINE, and the consumer's values. -/

set_option Elab.async false

namespace Sys2Proof.Machine

variable {s t x : State} {o : Order} {w : WinId}

/-! ### Effects that build records (R169) -/

/-- Effects that build records for which there is room. -/
theorem orderLeaves_build {u y : State} {rs : List Report} (hw : u.orders.waitingDone = none) (ho : anyOwed u = false)
    (hl : u.report.list.length + rs.length ≤ 32) (hr : y.report = (build u rs).report) (hs : SameOwed u y)
    (hor : y.orders = (clearDue u).orders) (he : y.engine = u.engine) (hp : y.port = u.port) : OrderLeaves u y rs [] := by
  obtain ⟨-, hseq, hlen⟩ := build_report u rs
  have hwait : y.orders.waitingDone = (build u rs).orders.waitingDone := by rw [hor]; simp [clearDue]
  exact
    { reported := by rw [← reported_build rs hw, reported, reported, hr, hwait]
      seq := by rw [hr, hseq]
      length := by rw [hr, hlen]; exact hl
      owed := hs.anyOwed.trans ho
      orders := hor
      engine := he
      inFlight := by rw [hr, inFlight_build]
      producer := by rw [hr, producer_build]
      port := by rw [hp, List.append_nil] }

theorem handSweeper_room {r : Report} (h : hasRoom s 1 = true) : handSweeper s r = build s [r] := if_pos h

theorem hasRoom_of_able (h : able s = true) : hasRoom s 1 = true := by
  obtain ⟨-, -, hl, ho⟩ := able_spec h
  exact (hasRoom_iff 1).mpr ⟨hl, ho⟩

/-! ### The discarding of a visit (R158) -/

theorem sameOwed_discardVisit (s : State) : SameOwed s (discardVisit s) := by
  refine ⟨fun _ => by rw [getWin_congr (s := s) (by simp)], fun _ => by rw [getCtx_congr (s := s) (by simp)], ?_⟩
  unfold discardVisit
  split <;> rfl

theorem discardVisit_sweeper (s : State) : (discardVisit s).sweeper = { s.sweeper with visit := none } := by
  unfold discardVisit
  split
  next h => rw [← h]
  next => rfl

theorem discardVisit_clearDue (s : State) : discardVisit (clearDue s) = clearDue (discardVisit s) := by
  unfold discardVisit
  cases h : s.sweeper.visit with
  | none => simp [clearDue, h]
  | some v =>
    simp only [clearDue, modOrders_sweeper, h]
    rfl

theorem able_discardVisit (s : State) : able (discardVisit s) = able s := by
  simp [able, isRunning, (sameOwed_discardVisit s).anyOwed]

theorem able_clearDue (s : State) : able (clearDue s) = able s := by
  have hsame : SameOwed s (clearDue s) := ⟨fun _ => rfl, fun _ => rfl, rfl⟩
  simp only [able, hsame.anyOwed]
  rfl

/-- A SWEEP-DONE for a sweep whose visit is discarded, and then the sweeper's new state. -/
theorem orderLeaves_sweepDone (h : OrderFound s o) (r : Report) (g : Sweeper → Sweeper)
    (hg : ∀ z, (g z).waiting = z.waiting) :
    OrderLeaves (discardVisit s) (modSweeper (build (clearDue (discardVisit s)) [r]) g) [r] [] := by
  obtain ⟨-, hw, hl, ho⟩ := able_spec ((able_discardVisit s).trans h.able)
  have hb := sameOwed_build (clearDue (discardVisit s)) [r]
  exact orderLeaves_build hw ho hl rfl ⟨hb.win, hb.ctx, (hg _).trans hb.waiting⟩ (by simp) (by simp [clearDue])
    (by simp [clearDue])

/-! ### RECHECK (R152, R153) -/

theorem orderRecheck_checked {d : WinDef} {m : SweepMode} (hw : o.window = some w) (hr : (getWin s w).region = some d)
    (hm : o.sweepMode = some m) (h1 : o.firstBay < d.count) (h2 : o.lastBay < d.count) :
    orderRecheck o s =
      if s.sweeper.state = .idle then (startSweep o s w m, plain .done)
      else if restarts o s w m then
        (startSweep o (handSweeper (discardVisit s) (sweepReport (discardVisit s) .restarted w)) w m, plain .done)
      else (s, plain .busy) := by
  simp only [orderRecheck, hw, hr, hm]
  rw [if_neg (by omega)]

theorem restarts_eq_false {m : SweepMode} (h : o.restart = false ∨ m ≠ .once ∨ s.sweeper.state ≠ .running ∨
    s.sweeper.job.all (fun j => decide (j.mode ≠ .once ∨ j.win ≠ w)) = true) : restarts o s w m = false := by
  unfold restarts
  rcases h with h | h | h | h
  · rw [h]; rfl
  · simp [h]
  · simp [h]
  · cases hj : s.sweeper.job with
    | none => simp
    | some j =>
      rw [hj] at h
      have hj' : j.mode ≠ .once ∨ j.win ≠ w := of_decide_eq_true h
      rcases hj' with hj' | hj' <;> simp [hj']

/-- The SWEEP-DONE of a sweep whose visit has been discarded. -/
theorem sweepReport_discarded (s : State) (cause : SweepCause) (w : WinId) :
    sweepReport (clearDue (discardVisit s)) cause w =
      .sweepDone cause w s.sweeper.checked s.sweeper.failed s.sweeper.skipped := by
  simp [sweepReport, clearDue, discardVisit_sweeper]

theorem orderStopSweep_stops {j : SweepJob} (h : s.sweeper.state ≠ .idle) (hj : s.sweeper.job = some j) :
    orderStopSweep o s = (modSweeper (handSweeper (discardVisit s) (sweepReport (discardVisit s) .stopped j.win))
      fun z => { z with state := .idle, job := none }, plain .done) := by
  have hstop : stopSweepFor s .stopped = modSweeper
      (handSweeper (discardVisit s) (sweepReport (discardVisit s) .stopped j.win))
      fun z => { z with state := .idle, job := none } := by
    rw [stopSweepFor, hj]
  unfold orderStopSweep
  split
  next hi => exact absurd hi h
  all_goals rw [hstop]

theorem clockSide_parts {y : State} (h : clockSide t = clockSide y) :
    t.time = y.time ∧ t.sweeper = y.sweeper ∧ t.counters = y.counters := by
  simp only [clockSide, Prod.mk.injEq] at h
  obtain ⟨htime, hsweep, hcounters, -⟩ := h
  exact ⟨htime, hsweep, hcounters⟩

/-! ### SNAPSHOT (R167) -/

/-- Block 0 of a new snapshot, filled with the state as it stands. -/
def engineBlock (s : State) : MemReq :=
  { kind := .write, addr := pageAddr s 0x100, count := 256
    data := engineStatus { s with report := { s.report with snapNumber := s.report.snapNumber + 1 } }
    owner := .statusBlock }

/-- The state after a snapshot has begun. -/
def snapshotBegun (s : State) : State :=
  { s with
    report := { s.report with snapNumber := s.report.snapNumber + 1, snapWriting := some 0 }
    port := { s.port with q3 := s.port.q3 ++ [engineBlock s] } }

theorem beginSnapshot_clearDue (s : State) : beginSnapshot (clearDue s) = clearDue (snapshotBegun s) := rfl

/-! ### The settings block (R168) -/

theorem readSettings_eq (s : State) : readSettings s =
    { interval :=
        if (readByte s.orders.shadow 0).toNat + 256 * (readByte s.orders.shadow 1).toNat = 0 then 1
        else (readByte s.orders.shadow 0).toNat + 256 * (readByte s.orders.shadow 1).toNat
      period := (readByte s.orders.shadow 2).toNat + 256 * (readByte s.orders.shadow 3).toNat
      attn := decide ((readByte s.orders.shadow 4).toNat ≠ 0) } := by
  have hzero : readByte s.orders.shadow 4 = 0#8 ↔ (readByte s.orders.shadow 4).toNat = 0 := by
    rw [← BitVec.toNat_inj]
    rfl
  have hclamp : ∀ n : Nat, max n 1 = if n = 0 then 1 else n := fun n => by
    split <;> omega
  simp [readSettings, readBytes, field, leNat, byteAt, clampTicks, hzero, hclamp]

/-! ### The consumer's values (R172) -/

theorem nothingOwed_spec (h : nothingOwed s = true) : anyOwed s = false ∧ s.orders.waitingDone = none := by
  simpa [nothingOwed] using h

/-- An event in which no ORDER-DONE waits builds what its state has built. -/
theorem Closed.seq_of_idle (h : Closed x t) (hw : x.orders.waitingDone = none) : t.report.seq = x.report.seq := by
  have hseq := h.seq
  rw [hw, h.waits hw] at hseq
  simpa using hseq

/-- The state after a consumer value is taken, before the close of the event. -/
def consumerTaken (s : State) (v : Word32) (rest : List Word32) : State :=
  modReport s fun u => { u with consumerIn := rest, consumer := v }

theorem execConsumerValueWritten_taken {v : Word32} {rest : List Word32} (hrun : s.engine.state = .running)
    (hv : s.report.consumerIn = v :: rest)
    (hle : (s.report.producer - v).toNat + (if s.report.inFlight.isSome then 1 else 0) ≤ 256) :
    exec .consumerValueWritten s = .next (settle s (consumerTaken s v rest)) := by
  have hok : consumerOk s v = true := decide_eq_true hle
  simp [exec, execConsumerValueWritten, hrun, hv, hok, consumerTaken, modReport]

theorem execConsumerValueWritten_refused {v : Word32} {rest : List Word32} (hrun : s.engine.state = .running)
    (hv : s.report.consumerIn = v :: rest)
    (hgt : 256 < (s.report.producer - v).toNat + (if s.report.inFlight.isSome then 1 else 0)) :
    exec .consumerValueWritten s = .next { s with report := { s.report with
      consumerIn := rest, badConsumer := min (s.report.badConsumer + 1) 4294967295 } } := by
  have hbad : consumerOk s v = false := decide_eq_false (Nat.not_le.mpr hgt)
  simp [exec, execConsumerValueWritten, hrun, hv, hbad, modReport, raise, Config.counterMax]

end Sys2Proof.Machine

open Sys2Proof Sys2Proof.Machine

/-- Settles O29. -/
theorem recheckStartsASweep : Obligations.RecheckStartsASweep := by
  intro o s hf hcode
  have hexec := exec_recheck hf hcode
  refine ⟨fun hw => answers hf hexec (by simp [orderRecheck, hw]), fun w hw => ⟨fun hr => ?_, fun d hr => ⟨fun hm => ?_,
    fun m hm => ⟨fun hb => ?_, fun h1 h2 hi hno => ?_, fun j h1 h2 hrun hres hm1 hj hjm hjw => ⟨_, hexec, ?_⟩,
      fun h1 h2 hi => ⟨_, hexec, ?_⟩⟩⟩⟩⟩
  · refine answers hf hexec ?_
    simp only [orderRecheck, hw]
    rw [show (getWin (clearDue s) w).region = none from hr]
  · refine answers hf hexec ?_
    simp only [orderRecheck, hw, hm]
    rw [show (getWin (clearDue s) w).region = some d from hr]
  · refine answers hf hexec ?_
    simp only [orderRecheck, hw, hm]
    rw [show (getWin (clearDue s) w).region = some d from hr]
    exact if_pos hb
  · refine answers hf hexec ((orderRecheck_checked (s := clearDue s) hw hr hm h1 h2).trans ?_)
    rw [if_neg (show ¬ (clearDue s).sweeper.state = .idle from hi), restarts_eq_false (s := clearDue s) hno]
    rfl
  · subst hm1
    have hrestarts : restarts o (clearDue s) w .once = true := by
      simp [restarts, clearDue, hres, hrun, hj, hjm, hjw]
    have hroom : hasRoom (discardVisit (clearDue s)) 1 = true :=
      hasRoom_of_able ((able_discardVisit _).trans ((able_clearDue s).trans hf.able))
    have hstart := orderRecheck_checked (s := clearDue s) hw hr hm h1 h2
    rw [if_neg (by rw [show (clearDue s).sweeper.state = _ from hrun]; simp), if_pos hrestarts, handSweeper_room hroom,
      discardVisit_clearDue] at hstart
    rw [sweepReport_discarded] at hstart
    obtain ⟨htook, hring, hlane, htrack, hclock⟩ := takeOrder_took hf (by simp) hstart
      (orderLeaves_sweepDone hf _ _ fun _ => rfl)
    obtain ⟨htime, hsweep, hcounters⟩ := clockSide_parts hclock
    refine ⟨htook, ?_, htime.trans (by simp [startSweep, clearDue]), hcounters.trans (by simp [startSweep, clearDue]), hring.trans ?_,
      hlane.trans (by simp [startSweep, laneSide, clearDue]), htrack.trans (by simp [startSweep, trackSide, clearDue])⟩
    · rw [hsweep]
      simp [startSweep, clearDue, discardVisit_sweeper]
    · exact (ringSide_build _).trans (by simp [ringSide, clearDue])
  · have hstart := (orderRecheck_checked (s := clearDue s) hw hr hm h1 h2).trans (if_pos hi)
    obtain ⟨htook, hring, hlane, htrack, hclock⟩ := takeOrder_took hf rfl hstart
      (orderLeaves_of_eq hf rfl ⟨fun _ => rfl, fun _ => rfl, rfl⟩ rfl rfl rfl)
    obtain ⟨htime, hsweep, hcounters⟩ := clockSide_parts hclock
    exact ⟨htook, hsweep, htime, hcounters, hring, hlane, htrack⟩

/-- Settles O30. -/
theorem stepAndStopSweep : Obligations.StepAndStopSweep := by
  intro o s hf
  refine ⟨fun hcode => ?_, fun hcode => ?_⟩
  · have hexec := exec_stepSweep hf hcode
    refine ⟨fun hi => answers hf hexec ?_, fun hr => answers hf hexec ?_, fun hw => ⟨_, hexec, ?_⟩⟩
    · rw [orderStep, show (clearDue s).sweeper.state = .idle from hi]
    · rw [orderStep, show (clearDue s).sweeper.state = .running from hr]
    · have hstep : orderStep o (clearDue s) = (modSweeper (clearDue s) fun z => { z with state := .running }, plain .done) := by
        rw [orderStep, show (clearDue s).sweeper.state = .waitingStep from hw]
      obtain ⟨htook, hring, hlane, htrack, hclock⟩ := takeOrder_took hf rfl hstep
        (orderLeaves_of_eq hf rfl ⟨fun _ => rfl, fun _ => rfl, rfl⟩ rfl rfl rfl)
      obtain ⟨htime, hsweep, hcounters⟩ := clockSide_parts hclock
      exact ⟨htook, hsweep, htime, hcounters, hring, hlane, htrack⟩
  · have hexec := exec_stopSweep hf hcode
    refine ⟨fun hi => answers hf hexec ?_, fun j hni hj => ⟨_, hexec, ?_⟩⟩
    · rw [orderStopSweep, show (clearDue s).sweeper.state = .idle from hi]
    · have hroom : hasRoom (discardVisit (clearDue s)) 1 = true :=
        hasRoom_of_able ((able_discardVisit _).trans ((able_clearDue s).trans hf.able))
      have hstop := orderStopSweep_stops (o := o) (s := clearDue s) hni hj
      rw [handSweeper_room hroom, discardVisit_clearDue, sweepReport_discarded] at hstop
      obtain ⟨htook, hring, hlane, htrack, hclock⟩ := takeOrder_took hf (by simp) hstop
        (orderLeaves_sweepDone hf _ _ fun _ => rfl)
      obtain ⟨htime, hsweep, hcounters⟩ := clockSide_parts hclock
      refine ⟨htook, ?_, htime.trans (by simp [clearDue]), hcounters.trans (by simp [clearDue]), hring.trans ?_,
        hlane.trans (by simp [laneSide, clearDue]), htrack.trans (by simp [trackSide, clearDue])⟩
      · rw [hsweep]
        simp [clearDue, discardVisit_sweeper]
      · exact (ringSide_build _).trans (by simp [ringSide, clearDue])

/-- Settles O31. -/
theorem snapshotBeginsOrRepeats : Obligations.SnapshotBeginsOrRepeats := by
  intro o s hf hcode
  have hexec := exec_snapshot hf hcode
  refine ⟨fun hn => ⟨_, hexec, ?_⟩, fun n hn => ⟨_, hexec, ?_⟩⟩
  · have hsnap : orderSnapshot o (clearDue s) = (clearDue (snapshotBegun s), plain .done) := by
      rw [orderSnapshot, requestSnapshot_idle (clearDue s) hn, beginSnapshot_clearDue]
    exact takeOrder_took hf rfl hsnap
      (orderLeaves_quiet (blocks := [engineBlock s]) hf rfl rfl rfl rfl ⟨fun _ => rfl, fun _ => rfl, rfl⟩ rfl rfl rfl)
  · have hsnap : orderSnapshot o (clearDue s) = (modReport (clearDue s) fun u => { u with snapRepeat := true }, plain .done) :=
      congrArg (·, plain .done) (requestSnapshot_writing (clearDue s) hn)
    obtain ⟨htook, hring, hrest⟩ := takeOrder_took hf rfl hsnap
      (orderLeaves_quiet (blocks := []) hf rfl rfl rfl rfl ⟨fun _ => rfl, fun _ => rfl, rfl⟩ rfl rfl
        (by rw [List.append_nil]; rfl))
    refine ⟨htook, hring.trans ?_, hrest⟩
    rw [← hn]
    rfl

/-- Settles O32. -/
theorem setEngineAndUnknownOrders : Obligations.SetEngineAndUnknownOrders := by
  intro o s hf
  refine ⟨fun hcode => ⟨_, exec_setEngine hf hcode, ?_⟩, fun hcode => answers hf (exec_unknownOrder hf hcode) rfl⟩
  obtain ⟨htook, hring, hlane, htrack, hclock⟩ := takeOrder_took (f := orderSetEngine) hf rfl rfl
    (orderLeaves_of_eq hf rfl ⟨fun _ => rfl, fun _ => rfl, rfl⟩ rfl rfl rfl)
  obtain ⟨htime, hsweep, hcounters⟩ := clockSide_parts hclock
  refine ⟨htook, htime.trans ?_, hsweep, hcounters, hring, hlane, htrack⟩
  rw [modTime_time, readSettings_eq]
  rfl

/-- Settles O21. -/
theorem consumerValueIsTested : Obligations.ConsumerValueIsTested := by
  intro v rest s hs hrun hv
  refine ⟨fun hle hn => ⟨_, execConsumerValueWritten_taken hrun hv hle, ?_⟩, fun hgt =>
    execConsumerValueWritten_refused hrun hv hgt⟩
  obtain ⟨howed, hwait⟩ := nothingOwed_spec hn
  have hc := settle_closed (x := consumerTaken s v rest) s
    (SameOwed.anyOwed (s := s) ⟨fun _ => rfl, fun _ => rfl, rfl⟩ |>.trans howed) fun h => by
      rw [show (consumerTaken s v rest).orders.waitingDone = none from hwait] at h
      cases h
  obtain ⟨hslot, hlap, hshadow, -⟩ := orders_settle s (consumerTaken s v rest)
  refine ⟨hc.ring, ?_, hc.reported, hc.seq_of_idle hwait, hc.port, hc.lane, hc.track, hc.clock,
    hshadow, hslot, hlap⟩
  rw [hc.engine, hc.attn, attnLevel_running (s := consumerTaken s v rest) hrun]
  rfl
end

section
/-! The counts that a tick ages (R142 to R150), the return of a context to FREE (R55, R33), and RETIRE (R53). -/

set_option Elab.async false

namespace Sys2Proof.Machine

variable {s t x : State} {o : Order} {w : WinId} {c : CtxId} {l : LaneId}

/-! ### The tick and its owners (R142, R146, R148, R149, R150) -/

theorem ages_eq (f : CtxState) : f.ages = decide (f = .collecting ∨ f = .guard) := by cases f <;> rfl

theorem exec_tick_delivers (hr : s.time.running = true) (hd : 0 < s.time.ticksDue) (hu : tickUnfinished s = false) :
    exec .tick s = .next (deliverTick s) := if_pos ⟨hr, hd, hu⟩

theorem exec_tick_waits (h : s.time.running = false ∨ s.time.ticksDue = 0 ∨ tickUnfinished s = true) :
    exec .tick s = .next s := by
  refine if_neg fun hn => ?_
  obtain ⟨hr, hd, hu⟩ := hn
  rcases h with h | h | h
  · exact absurd (hr.symm.trans h) (by simp)
  · omega
  · exact absurd (hu.symm.trans h) (by simp)

theorem deliverTick_eq (s : State) :
    deliverTick s = { s with time := { s.time with
      ticksDue := s.time.ticksDue - 1
      ctxDue := s.ctxs.map fun x => decide (x.state = .collecting ∨ x.state = .guard)
      readDue := s.fence.map Option.isSome, tickOpen := true } } := by
  rw [show (s.ctxs.map fun x => decide (x.state = .collecting ∨ x.state = .guard)) = s.ctxs.map fun c => c.state.ages from
    congrArg (Vector.map · s.ctxs) (funext fun c => (ages_eq c.state).symm)]
  rfl

theorem exec_idleCountEnd_collecting (hrun : s.engine.state = .running) (hd : ctxDue s c = true)
    (hc : (getCtx s c).state = .collecting) : exec (.idleCountEnd c) s = .next (ageIdle (ageTaken s c) c) := by
  simp [exec, execIdleCountEnd, hrun, hd, hc]

theorem exec_idleCountEnd_other (hrun : s.engine.state = .running) (hd : ctxDue s c = true)
    (hc : (getCtx s c).state ≠ .collecting) (hg : (getCtx s c).state ≠ .guard) :
    exec (.idleCountEnd c) s = .next (ageTaken s c) := by
  cases hst : (getCtx s c).state with
  | collecting => exact absurd hst hc
  | guard => exact absurd hst hg
  | free | priming | verified | mismatch | refused | expired | lost | aborted | tainted | corrupted =>
    simp [exec, execIdleCountEnd, hrun, hd, hst]

theorem exec_guardEnd_guard (hrun : s.engine.state = .running) (hd : ctxDue s c = true)
    (hc : (getCtx s c).state = .guard) : exec (.guardEnd c) s = .next (ageGuard (ageTaken s c) c) :=
  if_pos ⟨hrun, hd, hc⟩

theorem ageIdle_lowers {n : Nat} (h : (getCtx s c).idle = some n) (hn : 2 ≤ n) :
    ageIdle s c = modCtx s c fun x => { x with idle := some (n - 1) } := by
  obtain ⟨k, rfl⟩ : ∃ k, n = k + 2 := ⟨n - 2, by omega⟩
  rw [ageIdle, h]
  rfl

theorem ageIdle_ends {n : Nat} (h : (getCtx s c).idle = some n) (hn : n ≤ 1) :
    ageIdle s c = settle s (enterFinal s c { state := .expired, cause := .idle }) := by
  obtain rfl | rfl : n = 0 ∨ n = 1 := by omega
  all_goals rw [ageIdle, h]

theorem ageGuard_lowers {n : Nat} (h : (getCtx s c).guardCount = some n) (hn : 2 ≤ n) :
    ageGuard s c = modCtx s c fun x => { x with guardCount := some (n - 1) } := by
  obtain ⟨k, rfl⟩ : ∃ k, n = k + 2 := ⟨n - 2, by omega⟩
  rw [ageGuard, h]
  rfl

theorem ageGuard_ends {n : Nat} (h : (getCtx s c).guardCount = some n) (hn : n ≤ 1) :
    ageGuard s c = settle s (returnToFree s c) := by
  obtain rfl | rfl : n = 0 ∨ n = 1 := by omega
  all_goals rw [ageGuard, h]

theorem exec_holdCountEnd_held {g : FenceRec} {h : Head} (hrun : s.engine.state = .running) (hd : readDue s l = true)
    (hg : getFence s l = some g) (hh : (getLane s l).head = some h) :
    exec (.holdCountEnd l) s = .next (ageRead (readTaken s l) l h.req g) := by
  simp [exec, execHoldCountEnd, hrun, hd, hg, hh]

theorem exec_holdCountEnd_free (hrun : s.engine.state = .running) (hd : readDue s l = true) (hg : getFence s l = none) :
    exec (.holdCountEnd l) s = .next (readTaken s l) := by
  simp [exec, execHoldCountEnd, hrun, hd, hg]

theorem exec_snapshotCountdownEnd_lowers (hrun : s.engine.state = .running) (ht : s.time.tickOpen = true)
    (hp : s.time.pendingSettings = none) (hc : s.time.countdown.all (fun n => decide (2 ≤ n)) = true) :
    exec .snapshotCountdownEnd s =
      .next { s with time := { s.time with countdown := s.time.countdown.map (· - 1), tickOpen := false } } := by
  cases hn : s.time.countdown with
  | none => simp [exec, execSnapshotCountdownEnd, hrun, ht, hp, ageCountdown, hn, modTime]
  | some n =>
    rw [hn] at hc
    obtain ⟨k, rfl⟩ : ∃ k, n = k + 2 := ⟨n - 2, by have := of_decide_eq_true hc; omega⟩
    simp [exec, execSnapshotCountdownEnd, hrun, ht, hp, ageCountdown, hn, modTime]

/-! ### The return to FREE (R55, R33) -/

/-- The state after a context has returned to FREE and its window's entry has become this one. -/
def freedState (s : State) (c : CtxId) (w : WinId) (e : Window) : State :=
  { s with ctxs := s.ctxs.set c.val Context.free c.isLt, windows := s.windows.set w.val e w.isLt }

theorem drainApply_stays (h : (getWin s w).staged = none ∨ (getWin s w).bound ≠ 0) : drainApply s w = s := by
  unfold drainApply
  split
  next h0 =>
    rcases h with h | h
    · rw [h]
    · exact absurd h0 h
  next => rfl

theorem drainApply_applies {d : TakenDef} (h0 : (getWin s w).bound = 0) (hs : (getWin s w).staged = some d) :
    drainApply s w = handApplied (applyDef s w d) w := by
  rw [drainApply, if_pos h0, hs]

theorem returnToFree_bound {b : Binding} (hb : (getCtx s c).binding = some b) :
    returnToFree s c =
      drainApply (freedState s c b.win { getWin s b.win with bound := (getWin s b.win).bound - 1 }) b.win := by
  have hw : windowOf s c = some b.win := by simp [windowOf, hb]
  unfold returnToFree
  rw [hw]
  rfl

theorem getWin_freedState (s : State) (c : CtxId) (w : WinId) (e : Window) : getWin (freedState s c w e) w = e :=
  getWin_setWin_self s w e

theorem returnToFree_plain {b : Binding} (hb : (getCtx s c).binding = some b)
    (h : (getWin s b.win).staged = none ∨ 2 ≤ (getWin s b.win).bound) :
    returnToFree s c = freedState s c b.win { getWin s b.win with bound := (getWin s b.win).bound - 1 } := by
  rw [returnToFree_bound hb, drainApply_stays]
  rw [getWin_freedState]
  rcases h with h | h
  · exact .inl h
  · exact .inr (by dsimp only; omega)

theorem quiet_freedState (e : Window) (hc : (getCtx s c).owed = 0) (he : e.owes = (getWin s w).owes) :
    Quiet s (freedState s c w e) := ⟨rfl, ⟨owes_of_set rfl he, owed_of_set rfl hc.symm, rfl⟩, rfl⟩

/-- The record of a staged definition's apply. -/
def drainedReport (w : WinId) (d : TakenDef) : Report :=
  .windowApplied w (match d with | .enabled _ => .active | .disabled => .off) none

theorem hasRoom_congr {y : State} (ho : SameOwed s y) (hl : y.report.list = s.report.list) (n : Nat) :
    hasRoom y n = hasRoom s n := by simp only [hasRoom, hl, ho.anyOwed]

theorem returnToFree_applied {b : Binding} {d : TakenDef} (hb : (getCtx s c).binding = some b)
    (hs : (getWin s b.win).staged = some d) (h1 : (getWin s b.win).bound = 1) (ho : (getCtx s c).owed = 0)
    (hj : s.sweeper.job.all (fun j => decide (j.win ≠ b.win)) = true) (hr : hasRoom s 1 = true) :
    returnToFree s c = build (freedState s c b.win (drainedWindow (getWin s b.win) d)) [drainedReport b.win d] := by
  have hdrained : appliedEntry { getWin s b.win with bound := (getWin s b.win).bound - 1 } d =
      drainedWindow (getWin s b.win) d := by
    rw [h1]
    cases d <;> rfl
  have happly : applyDef (freedState s c b.win { getWin s b.win with bound := (getWin s b.win).bound - 1 }) b.win d =
      freedState s c b.win (drainedWindow (getWin s b.win) d) := by
    rw [applyDef_other (s := freedState s c b.win _) hj, modWin, getWin_freedState, hdrained]
    simp [freedState, setWin]
  have hroom : hasRoom (freedState s c b.win (drainedWindow (getWin s b.win) d)) 1 = true :=
    (hasRoom_congr (quiet_freedState (drainedWindow (getWin s b.win) d) ho rfl).owed rfl 1).trans hr
  have hreport : appliedReport (freedState s c b.win (drainedWindow (getWin s b.win) d)) b.win = drainedReport b.win d := by
    rw [appliedReport, getWin_freedState]
    cases d <;> rfl
  have hstaged : (getWin (freedState s c b.win { getWin s b.win with bound := (getWin s b.win).bound - 1 }) b.win).staged =
      some d := by
    rw [getWin_freedState]
    exact hs
  have hbound : (getWin (freedState s c b.win { getWin s b.win with bound := (getWin s b.win).bound - 1 }) b.win).bound = 0 := by
    rw [getWin_freedState]
    dsimp only
    omega
  rw [returnToFree_bound hb, drainApply_applies hbound hstaged, happly, handApplied, if_pos hroom, hreport]

theorem attnLevel_congr {y : State} (hr : ringSide y = ringSide s) (he : y.engine.state = s.engine.state) :
    attnLevel y = attnLevel s := by
  simp only [ringSide, Prod.mk.injEq] at hr
  obtain ⟨⟨hp, hc, -, ha⟩, -, -⟩ := hr
  unfold attnLevel unconsumed isRunning
  rw [hp, hc, ha, he]

/-! ### What an event reports before its close -/

/-- What an event's own effects leave of the Report Unit for the close of the event, where nothing becomes owed: they
report these records. -/
structure Leaves (s x : State) (rs : List Report) : Prop where
  reported : reported x = reported s ++ rs
  seq : x.report.seq = s.report.seq + BitVec.ofNat 32 rs.length
  length : x.report.list.length = s.report.list.length + rs.length
  owed : anyOwed x = anyOwed s
  waits : x.orders.waitingDone = s.orders.waitingDone
  inFlight : x.report.inFlight = s.report.inFlight
  ring : ringSide x = ringSide s
  engine : x.engine = s.engine

theorem Leaves.refl (s : State) : Leaves s s [] :=
  ⟨(List.append_nil _).symm, by simp, rfl, rfl, rfl, rfl, rfl, rfl⟩

/-- Changes outside the Report Unit. -/
theorem Leaves.same {y : State} {rs : List Report} (h : Leaves s x rs) (ho : anyOwed y = anyOwed x)
    (hr : y.report = x.report) (hw : y.orders.waitingDone = x.orders.waitingDone) (he : y.engine = x.engine) :
    Leaves s y rs :=
  { reported := by rw [← h.reported, Machine.reported, Machine.reported, hr, hw]
    seq := by rw [hr, h.seq]
    length := by rw [hr, h.length]
    owed := ho.trans h.owed
    waits := hw.trans h.waits
    inFlight := by rw [hr, h.inFlight]
    ring := by rw [← h.ring, ringSide, ringSide, hr]
    engine := he.trans h.engine }

theorem Leaves.build {rs rs' : List Report} (h : Leaves s x rs) (hw : s.orders.waitingDone = none) :
    Leaves s (build x rs') (rs ++ rs') :=
  { reported := by rw [reported_build _ (h.waits.trans hw), h.reported, List.append_assoc]
    seq := by
      rw [show (Machine.build x rs').report.seq = _ from appendRecords_seq x.report rs', h.seq, List.length_append,
        BitVec.ofNat_add, BitVec.add_assoc]
    length := by
      have hmap : (Machine.build x rs').report.list.length = x.report.list.length + rs'.length := by
        rw [← List.length_map (f := Record.body), (build_report x rs').1, List.length_append, List.length_map]
      rw [hmap, h.length, List.length_append, Nat.add_assoc]
    owed := (sameOwed_build x rs').anyOwed.trans h.owed
    waits := by simpa using h.waits
    inFlight := (inFlight_build rs').trans h.inFlight
    ring := (ringSide_build rs').trans h.ring
    engine := by simpa using h.engine }

theorem Leaves.room {rs : List Report} {n : Nat} (h : Leaves s x rs) (hr : hasRoom s (rs.length + n) = true) :
    hasRoom x n = true := by
  obtain ⟨hl, ho⟩ := (hasRoom_iff _).mp hr
  exact (hasRoom_iff n).mpr ⟨by rw [h.length]; omega, h.owed.trans ho⟩

theorem Leaves.append {u : State} {rs rs' : List Report} (h : Leaves s x rs) (h' : Leaves x u rs') : Leaves s u (rs ++ rs') :=
  { reported := by rw [h'.reported, h.reported, List.append_assoc]
    seq := by rw [h'.seq, h.seq, List.length_append, BitVec.ofNat_add, BitVec.add_assoc]
    length := by rw [h'.length, h.length, List.length_append, Nat.add_assoc]
    owed := h'.owed.trans h.owed
    waits := h'.waits.trans h.waits
    inFlight := h'.inFlight.trans h.inFlight
    ring := h'.ring.trans h.ring
    engine := h'.engine.trans h.engine }

/-- What an event that has reported these records leaves after its close, told by its effects' state `x`. -/
structure Reports (s x t : State) (rs : List Report) : Prop where
  reported : reported t = reported s ++ rs
  seq : t.report.seq = s.report.seq + BitVec.ofNat 32 rs.length
  port : t.port = { x.port with q3 := x.port.q3 ++ ringWrites s t }
  ring : ringSide t = ringSide s
  lane : laneSide t = laneSide x
  track : trackSide t = trackSide x
  clock : clockSide t = clockSide x
  engine : t.engine = { s.engine with attn := attnLevel s }
  orders : t.orders = x.orders

/-- Where ATTN stands as R173 says before the event, the engine's pins stay. -/
theorem Reports.engine_same {rs : List Report} (h : Reports s x t rs) (ha : s.engine.attn = attnLevel s) :
    t.engine = s.engine := by rw [h.engine, ← ha]

/-- Building a record changes nothing outside the Report Unit. -/
theorem Reports.of_build {rs rs' : List Report} (h : Reports s (Machine.build x rs') t rs) : Reports s x t rs :=
  { h with
    port := by simpa using h.port
    lane := h.lane.trans (by simp [laneSide])
    track := h.track.trans (by simp [trackSide])
    clock := h.clock.trans (by simp [clockSide])
    orders := by simpa using h.orders }

/-- What the tracking blocks, the lanes and the clocks are after an event, each by itself. -/
theorem Reports.sides {rs : List Report} (h : Reports s x t rs) :
    (t.windows = x.windows ∧ t.ctxs = x.ctxs ∧ t.serial = x.serial ∧ t.pool = x.pool ∧ t.builder = x.builder ∧
      t.slots = x.slots ∧ t.fence = x.fence) ∧
    (t.time = x.time ∧ t.sweeper = x.sweeper ∧ t.counters = x.counters ∧ t.choices = x.choices ∧ t.pending = x.pending) ∧
    t.lanes = x.lanes ∧ t.stall = x.stall ∧ t.upOut = x.upOut := by
  have ht := h.track
  have hc := h.clock
  have hl := h.lane
  simp only [trackSide, clockSide, laneSide, Prod.mk.injEq] at ht hc hl
  exact ⟨ht, hc, hl⟩

/-- The close of an event that reports, where nothing was owed before it. -/
theorem Leaves.close {b : State} {rs : List Report} (h : Leaves s x rs) (hn : nothingOwed s = true)
    (hb : able b = true) : Reports s x (settle b x) rs := by
  obtain ⟨hown, hwait⟩ := nothingOwed_spec hn
  have hw : x.orders.waitingDone = none := h.waits.trans hwait
  have ho : anyOwed x = false := h.owed.trans hown
  have hc := settle_closed (x := x) b ho fun hsome => by rw [hw] at hsome; cases hsome
  have hring := hc.ring.trans h.ring
  exact
    { reported := hc.reported.trans h.reported
      seq := by
        have hseq := hc.seq
        rw [hc.waits hw, hw] at hseq
        simpa using hseq.trans (congrArg (· + 0) h.seq)
      port := by
        have hp : x.report.producer = s.report.producer := congrArg (·.1.1) h.ring
        rw [hc.port, ringWrites_congr h.inFlight hp (by rw [h.engine])]
      ring := hring
      lane := hc.lane
      track := hc.track
      clock := hc.clock
      engine := by rw [hc.engine, hc.attn, attnLevel_congr h.ring (by rw [h.engine]), h.engine]
      orders := settle_orders hb hw ho }

end Sys2Proof.Machine

open Sys2Proof Sys2Proof.Machine

/-- Settles O36. -/
theorem tickAgesItsOwners : Obligations.TickAgesItsOwners := by
  intro s
  refine ⟨fun hr hd hu => (exec_tick_delivers hr hd hu).trans (by rw [deliverTick_eq]), exec_tick_waits,
    fun c hrun hd => ⟨fun n hc hn hle => ?_, fun n hc hn hle => ?_, fun hc hg => exec_idleCountEnd_other hrun hd hc hg⟩,
    fun l hrun hd => ⟨fun g hg hh hle => ?_, fun hg => exec_holdCountEnd_free hrun hd hg⟩,
    fun hrun ht hp hc => exec_snapshotCountdownEnd_lowers hrun ht hp hc⟩
  · rw [exec_idleCountEnd_collecting hrun hd hc, ageIdle_lowers (s := ageTaken s c) hn hle]
    rfl
  · rw [exec_guardEnd_guard hrun hd hc, ageGuard_lowers (s := ageTaken s c) hn hle]
    rfl
  · obtain ⟨h, hh⟩ := Option.isSome_iff_exists.mp hh
    rw [exec_holdCountEnd_held hrun hd hg hh, ageRead, if_pos hle]
    rfl

/-- Settles O38. -/
theorem guardAndHoldCountsEnd : Obligations.GuardAndHoldCountsEnd := by
  intro s hs hacc hrun
  refine ⟨fun c b n hc hd hb hn hle => ⟨fun hst => ?_, fun td hst h1 how hlen hj => ?_⟩, fun l g h hg hd hle hh => ?_⟩
  · have hown : (getCtx s c).owed = 0 := (hacc c).2.2 hc
    refine (exec_guardEnd_guard hrun hd hc).trans (congrArg _ ((ageGuard_ends (s := ageTaken s c) hn hle).trans ?_))
    rw [returnToFree_plain (s := ageTaken s c) hb hst]
    exact (quiet_freedState (s := ageTaken s c) (w := b.win)
      { getWin s b.win with bound := (getWin s b.win).bound - 1 } hown rfl).settle hs
  · have hown : (getCtx s c).owed = 0 := (hacc c).2.2 hc
    obtain ⟨howed, hwait⟩ := nothingOwed_spec how
    have hroom : hasRoom (ageTaken s c) 1 = true := (hasRoom_iff (s := ageTaken s c) 1).mpr ⟨hlen, howed⟩
    refine ⟨_, (exec_guardEnd_guard hrun hd hc).trans (congrArg _ ((ageGuard_ends (s := ageTaken s c) hn hle).trans
      (congrArg _ (returnToFree_applied (s := ageTaken s c) hb hst h1 hown hj hroom)))), ?_⟩
    have hleaves : Leaves s (build (freedState (ageTaken s c) c b.win
        (drainedWindow (getWin (ageTaken s c) b.win) td)) [drainedReport b.win td]) [drainedReport b.win td] :=
      ((Leaves.refl s).same (quiet_freedState (s := ageTaken s c)
        (drainedWindow (getWin (ageTaken s c) b.win) td) hown rfl).owed.anyOwed rfl rfl rfl).build hwait
    have hc := (hleaves.close (b := ageTaken s c) how
      (able_of_room (s := ageTaken s c) hrun how (n := 1) hlen (by simp))).of_build
    obtain ⟨⟨hwins, hctxs, hserial, hpool, hbuilder, hslots, hfence⟩, ⟨htime, hsweeper, hcounters, hchoices, hpending⟩, -⟩ :=
      hc.sides
    refine ⟨hctxs, hwins, hc.reported, hc.seq, htime, hc.port, hc.ring, hc.lane, hc.engine_same hs.1, ?_, ?_, ?_, ?_⟩
    · rw [hc.orders]
      rfl
    · rw [hc.orders]
      rfl
    · rw [hserial, hpool, hbuilder, hslots, hfence]
      rfl
    · rw [hsweeper, hcounters, hchoices, hpending]
      rfl
  · rw [exec_holdCountEnd_held hrun hd hg hh, ageRead, if_neg (by omega)]
    rfl
end

section
/-! RETIRE (R53, R55, R33). -/

set_option Elab.async false

namespace Sys2Proof.Machine

variable {s t x : State} {o : Order} {w : WinId} {c : CtxId}

/-- The state that an order leaves for its close, told by what it reports. -/
theorem Leaves.order {rs : List Report} {blocks : List MemReq} (h : Leaves s x rs) (hf : OrderFound s o)
    (hl : s.report.list.length + rs.length ≤ 32) (hor : x.orders = (clearDue s).orders)
    (hp : x.port = { s.port with q3 := s.port.q3 ++ blocks }) : OrderLeaves s x rs blocks :=
  { reported := h.reported
    seq := h.seq
    length := by rw [h.length]; exact hl
    owed := h.owed.trans (able_spec hf.able).2.2.2
    orders := hor
    engine := h.engine
    inFlight := h.inFlight
    producer := congrArg (·.1.1) h.ring
    port := hp }

theorem orderBay_bound {d : WinDef} (hw : o.window = some w) (hd : (getWin s w).region = some d) (hb : o.bay < d.count)
    (hl : lookup s w o.bay = some c) : orderBay o s = .inr (w, c) := by
  simp only [orderBay, hw, hd, hl]
  exact if_neg (Nat.not_le.mpr hb)

theorem binding_of_lookup {bay : Nat} (h : lookup s w bay = some c) :
    ∃ b, (getCtx s c).binding = some b ∧ b.win = w ∧ b.bay = bay :=
  (boundTo_iff w bay _).mp (boundTo_of_lookup h)

theorem abandonVisit_other (h : s.sweeper.visit.all (fun v => decide (v.ctx ≠ c)) = true) : abandonVisit s c = s := by
  unfold abandonVisit
  split
  next => rfl
  next v hv =>
    rw [hv] at h
    exact if_neg (of_decide_eq_true h)

/-- The state after a final context's isolation is cleared. -/
def unisolated (s : State) (c : CtxId) : State := modCtx s c fun x => { x with isolated := false }

theorem getCtx_unisolated (s : State) (c : CtxId) : getCtx (unisolated s c) c = { getCtx s c with isolated := false } :=
  getCtx_setCtx_self s c _

theorem region_defn {x : Window} {d : WinDef} (h : x.region = some d) : x.defn = some d := by
  cases hx : x.state with
  | off => simp [Window.region, hx] at h
  | active => simpa [Window.region, hx] using h
  | fenced => simpa [Window.region, hx] using h

theorem retireContext_of {d : WinDef} (hd : (getWin s w).defn = some d)
    (hv : s.sweeper.visit.all (fun v => decide (v.ctx ≠ c)) = true) :
    retireContext s w c = if d.guardTicks = 0 then returnToFree (unisolated s c) c
      else modCtx (ageTaken (unisolated s c) c) c fun x => { x with state := .guard, guardCount := some d.guardTicks } := by
  have hvisit : abandonVisit (unisolated s c) c = unisolated s c := abandonVisit_other hv
  have hticks : (getWin (unisolated s c) w).defn.elim 0 (·.guardTicks) = d.guardTicks := by
    rw [show (getWin (unisolated s c) w).defn = some d from hd]
    rfl
  simp only [retireContext]
  rw [show (modCtx s c fun x => { x with isolated := false }) = unisolated s c from rfl, hvisit, hticks]

theorem retireContext_guard {d : WinDef} (hd : (getWin s w).defn = some d) (hg : 0 < d.guardTicks)
    (hv : s.sweeper.visit.all (fun v => decide (v.ctx ≠ c)) = true) :
    retireContext s w c =
      setCtx (ageTaken s c) c { getCtx s c with isolated := false, state := .guard, guardCount := some d.guardTicks } := by
  have hctx : getCtx (ageTaken (unisolated s c) c) c = { getCtx s c with isolated := false } := getCtx_unisolated s c
  rw [retireContext_of hd hv, if_neg (by omega), modCtx, hctx]
  simp [setCtx, unisolated, modCtx, ageTaken, modTime]

theorem freedState_unisolated (s : State) (c : CtxId) (w : WinId) (e : Window) :
    freedState (unisolated s c) c w e = freedState s c w e := by
  simp [freedState, unisolated, modCtx, setCtx]

section Freed

variable {b : Binding} {d : WinDef}

theorem retireContext_plain (hb : (getCtx s c).binding = some b) (hd : (getWin s b.win).defn = some d)
    (hg : d.guardTicks = 0) (hv : s.sweeper.visit.all (fun v => decide (v.ctx ≠ c)) = true)
    (h : (getWin s b.win).staged = none ∨ 2 ≤ (getWin s b.win).bound) :
    retireContext s b.win c = freedState s c b.win { getWin s b.win with bound := (getWin s b.win).bound - 1 } := by
  have hbind : (getCtx (unisolated s c) c).binding = some b := by rw [getCtx_unisolated]; exact hb
  rw [retireContext_of hd hv, if_pos hg, returnToFree_plain hbind h, freedState_unisolated]
  rfl

theorem retireContext_applied {td : TakenDef} (hb : (getCtx s c).binding = some b) (hd : (getWin s b.win).defn = some d)
    (hg : d.guardTicks = 0) (hv : s.sweeper.visit.all (fun v => decide (v.ctx ≠ c)) = true)
    (hs : (getWin s b.win).staged = some td) (h1 : (getWin s b.win).bound = 1) (ho : (getCtx s c).owed = 0)
    (hj : s.sweeper.job.all (fun j => decide (j.win ≠ b.win)) = true) (hr : hasRoom s 1 = true) :
    retireContext s b.win c =
      build (freedState s c b.win (drainedWindow (getWin s b.win) td)) [drainedReport b.win td] := by
  have hctx := getCtx_unisolated s c
  have hbind : (getCtx (unisolated s c) c).binding = some b := by rw [hctx]; exact hb
  have hown : (getCtx (unisolated s c) c).owed = 0 := by rw [hctx]; exact ho
  have hsame : SameOwed s (unisolated s c) := ⟨fun _ => rfl, owed_of_set rfl rfl, rfl⟩
  have hroom : hasRoom (unisolated s c) 1 = true := (hasRoom_congr hsame rfl 1).trans hr
  rw [retireContext_of hd hv, if_pos hg, returnToFree_applied hbind hs h1 hown hj hroom, freedState_unisolated]
  rfl

end Freed

theorem orderRetire_final (ho : orderBay o s = .inr (w, c)) (hs : (getCtx s c).state.isFinal = true) :
    orderRetire o s = (retireContext s w c, { status := .done, ctx := some c, value := some (getCtx s c).afterEnd }) := by
  have hne : ¬ ((getCtx s c).state = .priming ∨ (getCtx s c).state = .collecting) := by
    rintro (h | h) <;> rw [h] at hs <;> cases hs
  simp only [orderRetire, ho]
  rw [if_neg hne, if_pos hs]

end Sys2Proof.Machine

open Sys2Proof Sys2Proof.Machine

/-- Settles O27. -/
theorem retireEntersGuardOrFrees : Obligations.RetireEntersGuardOrFrees := by
  intro o w c d s hf hcode hw hd hb hl hv
  have hexec := exec_retire hf hcode
  have hbay : orderBay o (clearDue s) = .inr (w, c) := orderBay_bound (s := clearDue s) hw hd hb hl
  obtain ⟨b, hbind, rfl, -⟩ := binding_of_lookup hl
  have hown : (getCtx s c).owed = 0 := able_owed hf.able c
  obtain ⟨-, hwait, hlen, howed⟩ := able_spec hf.able
  have hdefn : (getWin (clearDue s) b.win).defn = some d := region_defn hd
  refine ⟨fun hst => ?_, fun hst => ?_, fun hst hg => ⟨_, hexec, ?_⟩, fun hst hg hstay => ⟨_, hexec, ?_⟩,
    fun td hst hg hstaged h1 hj => ⟨_, hexec, ?_⟩⟩
  · refine answers hf hexec ?_
    simp only [orderRetire, hbay]
    exact if_pos hst
  · refine answers hf hexec ?_
    simp only [orderRetire, hbay]
    rw [show (getCtx (clearDue s) c).state = .guard from hst]
    rfl
  · have hret := (orderRetire_final (s := clearDue s) hbay hst).trans
      (congrArg (·, _) (retireContext_guard (s := clearDue s) hdefn hg hv))
    obtain ⟨htook, hring, hlane, htrack, hclock⟩ := takeOrder_took hf rfl hret
      (orderLeaves_of_eq hf rfl ⟨fun _ => rfl, owed_of_set rfl rfl, rfl⟩ rfl rfl rfl)
    obtain ⟨hwin, hctx, hserial, hpool, hbuild, hslots, hfence⟩ := trackSide_windows htrack
    simp only [clockSide, Prod.mk.injEq] at hclock
    obtain ⟨htime, hsweep⟩ := hclock
    refine ⟨htook, hctx, htime, hwin, hserial, hpool, hbuild, hslots, hfence, hring, hlane, ?_⟩
    simp only [hsweep]
    rfl
  · have hret := (orderRetire_final (s := clearDue s) hbay hst).trans
      (congrArg (·, _) (retireContext_plain (s := clearDue s) hbind hdefn hg hv hstay))
    obtain ⟨htook, hring, hlane, htrack, hclock⟩ := takeOrder_took hf rfl hret
      (((Leaves.refl s).same (quiet_freedState (s := clearDue s)
        { getWin s b.win with bound := (getWin s b.win).bound - 1 } hown rfl).owed.anyOwed rfl rfl rfl).order (blocks := []) hf
        hlen.le rfl (by simp [freedState, clearDue]))
    obtain ⟨hwin, hctx, hserial, hpool, hbuild, hslots, hfence⟩ := trackSide_windows htrack
    exact ⟨htook, hctx, hwin, hserial, hpool, hbuild, hslots, hfence, hring, hlane, hclock⟩
  · have hroom : hasRoom (clearDue s) 1 = true := (hasRoom_iff (s := clearDue s) 1).mpr ⟨hlen, howed⟩
    have hret := (orderRetire_final (s := clearDue s) hbay hst).trans
      (congrArg (·, _) (retireContext_applied (s := clearDue s) hbind hdefn hg hv hstaged h1 hown hj hroom))
    have hleaves : Leaves s (build (freedState (clearDue s) c b.win (drainedWindow (getWin s b.win) td))
        [drainedReport b.win td]) [drainedReport b.win td] :=
      ((Leaves.refl s).same (quiet_freedState (s := clearDue s) (drainedWindow (getWin s b.win) td) hown rfl).owed.anyOwed
        rfl rfl rfl).build hwait
    obtain ⟨htook, hring, hlane, htrack, hclock⟩ := takeOrder_took hf rfl hret
      (hleaves.order (blocks := []) hf hlen (by simp [freedState]) (by simp [freedState, clearDue]))
    obtain ⟨hwin, hctx, hserial, hpool, hbuild, hslots, hfence⟩ := trackSide_windows htrack
    refine ⟨htook, hctx.trans ?_, hwin.trans ?_, hserial.trans ?_, hpool.trans ?_, hbuild.trans ?_, hslots.trans ?_,
      hfence.trans ?_, hring.trans hleaves.ring, hlane.trans ?_, hclock.trans ?_⟩
    all_goals simp [freedState, clearDue, laneSide, clockSide]
end

section
/-! The end of a transfer (R48): what each of its steps leaves, and what the close of its event makes of it. -/

set_option Elab.async false

namespace Sys2Proof.Machine

variable {s t x : State} {w : WinId} {c : CtxId} {l : LaneId}

/-! ### Folds whose steps each act on what their own entry holds -/

/-- What a fold makes of a part of the state that each step changes by what its own entry holds. -/
theorem foldl_collects {ι α β : Type} {op : State → ι → State} {f : State → ι → Option α}
    (hother : ∀ s i k, i ≠ k → f (op s i) k = f s k) (g : State → β) (h : β → α → β)
    (hsome : ∀ s i a, f s i = some a → g (op s i) = h (g s) a) (hnone : ∀ s i, f s i = none → g (op s i) = g s)
    {xs : List ι} (hxs : xs.Nodup) (s : State) : g (xs.foldl op s) = (xs.filterMap (f s)).foldl h (g s) := by
  induction xs generalizing s with
  | nil => rfl
  | cons i xs ih =>
    obtain ⟨hi, hxs⟩ := List.nodup_cons.mp hxs
    have hrest : xs.filterMap (f (op s i)) = xs.filterMap (f s) :=
      List.filterMap_congr fun k hk => hother s i k fun e => hi (e ▸ hk)
    rw [List.foldl_cons, ih hxs, hrest]
    cases hf : f s i with
    | none => rw [List.filterMap_cons_none hf, hnone s i hf]
    | some a => rw [List.filterMap_cons_some hf, List.foldl_cons, hsome s i a hf]

theorem foldl_append_map {α β : Type} (e : α → β) (xs : List α) (u : List β) :
    xs.foldl (fun u a => u ++ [e a]) u = u ++ xs.map e := by
  induction xs generalizing u with
  | nil => exact (List.append_nil u).symm
  | cons a xs ih => rw [List.foldl_cons, ih, List.map_cons, List.append_assoc, List.singleton_append]

theorem raisedBy_raise (x n : Nat) : raisedBy (raise x 1) n = raisedBy x (n + 1) := by
  simp only [raisedBy, raise, Config.counterMax]
  split <;> simp <;> omega

/-! ### The reads held for a transfer (R135, R136) -/

theorem failRead_eq (c : CtxId) (s : State) (l : LaneId) :
    failRead c s l = (heldReadOf s c l).elim s fun r =>
      modCounters (setFence (partAnswer s l r) l none) fun k => { k with fenceFailures := raise k.fenceFailures 1 } := by
  unfold failRead heldReadOf
  cases getFence s l with
  | none => rfl
  | some g =>
    cases (getLane s l).head with
    | none => simp
    | some h => by_cases hc : g.ctx = c <;> simp [hc]

theorem releaseRead_eq (c : CtxId) (s : State) (l : LaneId) :
    releaseRead c s l = (heldReadOf s c l).elim s fun r =>
      modCounters (setFence (forwardHead s l r none) l none) fun k => { k with fenceReleases := raise k.fenceReleases 1 } := by
  unfold releaseRead heldReadOf
  cases getFence s l with
  | none => rfl
  | some g =>
    cases (getLane s l).head with
    | none => simp
    | some h => by_cases hc : g.ctx = c <;> simp [hc]

/-- A lane and its held read after its transfer's outcome. -/
def outcomeLane (s : State) (c : CtxId) (l : LaneId) : Lane × Option FenceRec :=
  if (heldReadOf s c l).isSome then ({ getLane s l with head := none }, none) else laneAndFence s l

theorem heldReadOf_congr {y : State} (h : laneAndFence y l = laneAndFence s l) : heldReadOf y c l = heldReadOf s c l := by
  simp only [laneAndFence, Prod.mk.injEq] at h
  rw [heldReadOf, heldReadOf, h.1, h.2]

theorem outcomeLane_congr {y : State} (h : laneAndFence y l = laneAndFence s l) : outcomeLane y c l = outcomeLane s c l := by
  have hl : getLane y l = getLane s l := congrArg Prod.fst h
  rw [outcomeLane, outcomeLane, heldReadOf_congr h, h, hl]

section Fold

variable {r : Request} {op : State → LaneId → State}

theorem laneAndFence_gone (y : State) (k : Counters → Counters) (hl : y.lanes = s.lanes) (hf : y.fence = s.fence) (m : LaneId) :
    laneAndFence (modCounters (setFence (clearHead y l) l none) k) m =
      if l = m then ({ getLane s l with head := none }, none) else laneAndFence s m := by
  have hlane : getLane (modCounters (setFence (clearHead y l) l none) k) m = getLane (clearHead y l) m := rfl
  have hfence : getFence (modCounters (setFence (clearHead y l) l none) k) m = getFence (setFence (clearHead y l) l none) m := rfl
  rw [laneAndFence, hlane, hfence, getLane_clearHead, getLane_congr hl, getLane_congr hl]
  split
  next h =>
    subst h
    rw [getFence_setFence_self]
  next h =>
    rw [getFence_setFence_of_ne _ _ _ _ h]
    exact Prod.ext rfl (getFence_congr hf m)

theorem laneAndFence_failRead (c : CtxId) (s : State) (l m : LaneId) :
    laneAndFence (failRead c s l) m = if l = m then outcomeLane s c l else laneAndFence s m := by
  rw [failRead_eq, outcomeLane]
  cases heldReadOf s c l with
  | none => by_cases h : l = m <;> simp [h]
  | some r => exact laneAndFence_gone (l := l) (answerError s r) (fun k => { k with
    partAnswers := raise k.partAnswers 1, fenceFailures := raise k.fenceFailures 1 }) rfl rfl m

theorem laneAndFence_releaseRead (c : CtxId) (s : State) (l m : LaneId) :
    laneAndFence (releaseRead c s l) m = if l = m then outcomeLane s c l else laneAndFence s m := by
  rw [releaseRead_eq, outcomeLane]
  cases heldReadOf s c l with
  | none => by_cases h : l = m <;> simp [h]
  | some r => exact laneAndFence_gone (l := l) (forward s r none) (fun k => { k with
    fenceReleases := raise k.fenceReleases 1 }) rfl rfl m

end Fold

/-- The reads held for FENCE on a context's bay, in lane order. -/
def heldReads (s : State) (c : CtxId) : List Request := allLanes.filterMap (heldReadOf s c)

theorem laneAndFence_fenceOutcome (s : State) (c : CtxId) (f : CtxState) (l : LaneId) :
    laneAndFence (fenceOutcome s c f) l = outcomeLane s c l := by
  unfold fenceOutcome
  split
  · obtain ⟨y, hy, hop⟩ := foldl_own laneAndFence (op := releaseRead c)
      (fun s i k h => (laneAndFence_releaseRead c s i k).trans (if_neg h)) nodup_allLanes (mem_allLanes l) s
    rw [hop, laneAndFence_releaseRead, if_pos rfl, outcomeLane_congr hy]
  · obtain ⟨y, hy, hop⟩ := foldl_own laneAndFence (op := failRead c)
      (fun s i k h => (laneAndFence_failRead c s i k).trans (if_neg h)) nodup_allLanes (mem_allLanes l) s
    rw [hop, laneAndFence_failRead, if_pos rfl, outcomeLane_congr hy]

theorem heldReadOf_failRead (s : State) (l m : LaneId) (h : l ≠ m) : heldReadOf (failRead c s l) c m = heldReadOf s c m :=
  heldReadOf_congr ((laneAndFence_failRead c s l m).trans (if_neg h))

theorem heldReadOf_releaseRead (s : State) (l m : LaneId) (h : l ≠ m) :
    heldReadOf (releaseRead c s l) c m = heldReadOf s c m :=
  heldReadOf_congr ((laneAndFence_releaseRead c s l m).trans (if_neg h))

/-- What the held reads' fold makes of a part of the state, at a final state other than VERIFIED. -/
theorem failReads_collects {β : Type} (g : State → β) (h : β → Request → β)
    (hg : ∀ s l r, g (modCounters (setFence (partAnswer s l r) l none) fun k =>
      { k with fenceFailures := raise k.fenceFailures 1 }) = h (g s) r) (s : State) (c : CtxId) {f : CtxState}
    (hf : f ≠ .verified) : g (fenceOutcome s c f) = (heldReads s c).foldl h (g s) := by
  rw [fenceOutcome, if_neg hf]
  refine foldl_collects (f := fun s l => heldReadOf s c l) heldReadOf_failRead g h (fun s l r hr => ?_) (fun s l hr => ?_) nodup_allLanes s <;>
    rw [failRead_eq, hr]
  exacts [hg s l r, rfl]

/-- What the held reads' fold makes of a part of the state, at a verdict of VERIFIED. -/
theorem releaseReads_collects {β : Type} (g : State → β) (h : β → Request → β)
    (hg : ∀ s l r, g (modCounters (setFence (forwardHead s l r none) l none) fun k =>
      { k with fenceReleases := raise k.fenceReleases 1 }) = h (g s) r) (s : State) (c : CtxId) :
    g (fenceOutcome s c .verified) = (heldReads s c).foldl h (g s) := by
  rw [fenceOutcome, if_pos rfl]
  refine foldl_collects (f := fun s l => heldReadOf s c l) heldReadOf_releaseRead g h (fun s l r hr => ?_) (fun s l hr => ?_) nodup_allLanes s <;>
    rw [releaseRead_eq, hr]
  exacts [hg s l r, rfl]

/-- R136: the counters after a held read is answered ERROR at its transfer's end. -/
def countFailure (k : Counters) (_ : Request) : Counters :=
  { k with partAnswers := raise k.partAnswers 1, fenceFailures := raise k.fenceFailures 1 }

/-- R135: the counters after a held read is forwarded at its transfer's verdict. -/
def countRelease (k : Counters) (_ : Request) : Counters := { k with fenceReleases := raise k.fenceReleases 1 }

theorem countFailure_each (rs : List Request) (k : Counters) :
    rs.foldl countFailure k = { k with
      partAnswers := raisedBy k.partAnswers rs.length
      fenceFailures := raisedBy k.fenceFailures rs.length } := by
  induction rs generalizing k with
  | nil => rfl
  | cons r rs ih => rw [List.foldl_cons, ih, List.length_cons, countFailure, raisedBy_raise, raisedBy_raise]

theorem countRelease_each (rs : List Request) (k : Counters) :
    rs.foldl countRelease k = { k with fenceReleases := raisedBy k.fenceReleases rs.length } := by
  induction rs generalizing k with
  | nil => rfl
  | cons r rs ih => rw [List.foldl_cons, ih, List.length_cons, countRelease, raisedBy_raise]

theorem fenceOutcome_upOut (s : State) (c : CtxId) (f : CtxState) :
    (fenceOutcome s c f).upOut = s.upOut ++ if f = .verified then [] else (heldReads s c).map errorTo := by
  split
  next h =>
    subst h
    rw [releaseReads_collects State.upOut (fun u _ => u) (fun _ _ _ => rfl) s c, List.append_nil]
    exact List.foldl_fixed _
  next h =>
    rw [failReads_collects State.upOut (fun u r => u ++ [errorTo r]) (fun _ _ _ => rfl) s c h, foldl_append_map]

/-- The port after a held read is forwarded. -/
def forwardRead (p : Port) (r : Request) : Port := { p with q1 := p.q1 ++ [forwardedReq r none] }

theorem forwardRead_each (rs : List Request) (p : Port) :
    rs.foldl forwardRead p = { p with q1 := p.q1 ++ rs.map (forwardedReq · none) } := by
  induction rs generalizing p with
  | nil => exact congrArg (fun q => ({ p with q1 := q } : Port)) (List.append_nil p.q1).symm
  | cons r rs ih =>
    rw [List.foldl_cons, ih, forwardRead, List.map_cons]
    dsimp only
    rw [List.append_assoc, List.singleton_append]

theorem fenceOutcome_port (s : State) (c : CtxId) (f : CtxState) :
    (fenceOutcome s c f).port =
      { s.port with q1 := s.port.q1 ++ if f = .verified then (heldReads s c).map (forwardedReq · none) else [] } := by
  split
  next h =>
    subst h
    rw [releaseReads_collects State.port forwardRead (fun _ _ _ => rfl) s c, forwardRead_each]
  next h =>
    rw [failReads_collects State.port (fun u _ => u) (fun _ _ _ => rfl) s c h, List.append_nil]
    exact List.foldl_fixed _

theorem fenceOutcome_counters (s : State) (c : CtxId) (f : CtxState) :
    (fenceOutcome s c f).counters =
      if f = .verified then { s.counters with fenceReleases := raisedBy s.counters.fenceReleases (heldReads s c).length }
      else { s.counters with
        partAnswers := raisedBy s.counters.partAnswers (heldReads s c).length
        fenceFailures := raisedBy s.counters.fenceFailures (heldReads s c).length } := by
  split
  next h =>
    subst h
    rw [releaseReads_collects State.counters countRelease (fun _ _ _ => rfl) s c, countRelease_each]
  next h => rw [failReads_collects State.counters countFailure (fun _ _ _ => rfl) s c h, countFailure_each]

end Sys2Proof.Machine
end

section
/-! The end of a transfer (R48, R50) and what the close of its event makes of it. -/

set_option Elab.async false

namespace Sys2Proof.Machine

variable {s t x : State} {w : WinId} {c : CtxId} {l : LaneId} {b : Binding}

/-! ### The window's notification (R34, R35) -/

theorem endedWindow_eq (x : Window) (f : CtxState) :
    endedWindow x f = if fencedBy x f then { struckEntry x f with state := .fenced } else struckEntry x f := by
  by_cases hv : f = .verified
  · subst hv
    simp [endedWindow, fencedBy, struckEntry, strikesAfter, CtxState.strikes, raise, Config.counterMax]
  · cases hs : f.strikes with
    | false => simp [endedWindow, fencedBy, struckEntry, strikesAfter, hs, hv]
    | true => split <;> simp_all [endedWindow, struckEntry, strikesAfter, raise, Config.counterMax]

theorem reachesThreshold_struckEntry (x : Window) (f : CtxState) :
    reachesThreshold (struckEntry x f) f = fencedBy x f := by
  cases hs : f.strikes with
  | false => simp [reachesThreshold, fencedBy, hs]
  | true =>
    have hv : f ≠ .verified := by
      rintro rfl
      cases hs
    cases hd : x.defn <;> simp [reachesThreshold, fencedBy, struckEntry, hs, hv, hd]

theorem struckEntry_owes (x : Window) (f : CtxState) : (struckEntry x f).owes = x.owes := by
  unfold struckEntry
  split
  · rfl
  · split <;> rfl

theorem struckEntry_strikes (x : Window) (f : CtxState) : (struckEntry x f).strikes = strikesAfter x f := by
  unfold struckEntry strikesAfter
  split
  · rfl
  · split <;> rfl

/-- R34, R35, R38: a final state is noted in the window's entry, and a fencing reported. -/
theorem notifyWindow_eq (f : CtxState) (hr : hasRoom s 1 = true) :
    notifyWindow s w f =
      build (setWin s w (endedWindow (getWin s w) f)) (fencedRecord (getWin s w) w f) := by
  have hget : getWin (modWin s w fun x => struckEntry x f) w = struckEntry (getWin s w) f := getWin_setWin_self s w _
  have hnot : notifyWindow s w f = if fencedBy (getWin s w) f then
      handFenced (modWin (modWin s w fun x => struckEntry x f) w fun x => { x with state := .fenced }) w
    else modWin s w fun x => struckEntry x f := by
    simp only [notifyWindow, hget, reachesThreshold_struckEntry]
  rw [hnot, endedWindow_eq, fencedRecord]
  cases hf : fencedBy (getWin s w) f with
  | false => rfl
  | true =>
    have hfenced : (modWin (modWin s w fun x => struckEntry x f) w fun x => { x with state := .fenced }) =
        setWin s w { struckEntry (getWin s w) f with state := .fenced } := by
      rw [modWin, hget]
      simp [modWin, setWin]
    have hsame : SameOwed s (setWin s w { struckEntry (getWin s w) f with state := .fenced }) :=
      ⟨owes_of_set rfl (struckEntry_owes (getWin s w) f), fun _ => rfl, rfl⟩
    have hroom := (hasRoom_congr hsame rfl 1).trans hr
    rw [if_pos rfl, if_pos rfl, hfenced, handFenced, if_pos hroom, fencedReport, getWin_setWin_self, if_pos rfl,
      show ({ struckEntry (getWin s w) f with state := .fenced } : Window).strikes = _ from struckEntry_strikes _ f]

theorem endedWindow_owes (x : Window) (f : CtxState) : (endedWindow x f).owes = x.owes := rfl

/-! ### The TRANSFER-END group (R62, R63) -/

theorem handTransferEnd_room {f : FinalRec} (hb : (getCtx s c).binding = some b) (hr : hasRoom s 3 = true) :
    handTransferEnd s c f = build s (endGroup f c b (getCtx s c)) := by
  rw [handTransferEnd, if_pos hr]
  simp only [transferGroup, hb]
  rfl

theorem endGroup_length (f : FinalRec) (c : CtxId) (b : Binding) (x : Context) : (endGroup f c b x).length = 3 := rfl

theorem fencedRecord_length (x : Window) (w : WinId) (f : CtxState) : (fencedRecord x w f).length ≤ 1 := by
  unfold fencedRecord
  split <;> simp

/-! ### Entry into a first final state (R48) -/

/-- The state after the Reconcile and Fence Units have been told a transfer's end. -/
def released (s : State) (c : CtxId) (f : FinalRec) : State := fenceOutcome (finalise s c f) c f.state

/-- The records of a transfer's end. -/
def endRecords (s : State) (c : CtxId) (b : Binding) (f : FinalRec) : List Report :=
  fencedRecord (getWin s b.win) b.win f.state ++ endGroup f c b (getCtx s c)

theorem endRecords_length (s : State) (c : CtxId) (b : Binding) (f : FinalRec) : (endRecords s c b f).length ≤ 4 := by
  rw [endRecords, List.length_append, endGroup_length]
  have := fencedRecord_length (getWin s b.win) b.win f.state
  omega

theorem hasRoom_mono {m n : Nat} (h : hasRoom s n = true) (hmn : m ≤ n) : hasRoom s m = true := by
  obtain ⟨hl, ho⟩ := (hasRoom_iff n).mp h
  exact (hasRoom_iff m).mpr ⟨by omega, ho⟩

theorem getWin_released (s : State) (c : CtxId) (f : FinalRec) (w : WinId) : getWin (released s c f) w = getWin s w :=
  getWin_congr (s := s) (by simp [released]) w

theorem getCtx_released (s : State) (c : CtxId) (f : FinalRec) :
    getCtx (released s c f) c = { finalContext (getCtx s c) f with extents := [] } :=
  (getCtx_congr (s := finalise s c f) (by simp [released]) c).trans (getCtx_finalise_self s c f)

theorem sameOwed_released (s : State) (c : CtxId) (f : FinalRec) : SameOwed s (released s c f) :=
  ⟨fun w => by rw [getWin_released], owed_of_set ((by simp [released] : (released s c f).ctxs = _).trans (finalise_ctxs s c f)) rfl,
    by simp [released]⟩

theorem leaves_released (s : State) (c : CtxId) (f : FinalRec) : Leaves s (released s c f) [] :=
  (Leaves.refl s).same (sameOwed_released s c f).anyOwed (by simp [released]) (by simp [released]) (by simp [released])

/-- The state after a transfer's window has been told its end and its records are built. -/
def endReported (s : State) (c : CtxId) (b : Binding) (f : FinalRec) : State :=
  build (build (setWin (released s c f) b.win (endedWindow (getWin s b.win) f.state))
    (fencedRecord (getWin s b.win) b.win f.state)) (endGroup f c b (getCtx s c))

theorem leaves_endReported (f : FinalRec) (hw : s.orders.waitingDone = none) :
    Leaves s (endReported s c b f) (endRecords s c b f) := by
  have hset : SameOwed (released s c f) (setWin (released s c f) b.win (endedWindow (getWin s b.win) f.state)) :=
    ⟨owes_of_set rfl (by rw [endedWindow_owes, getWin_released]), fun _ => rfl, rfl⟩
  have htold := (leaves_released s c f).same hset.anyOwed rfl rfl rfl
  exact (htold.build hw).build hw

theorem ctxs_endReported (s : State) (c : CtxId) (b : Binding) (f : FinalRec) :
    (endReported s c b f).ctxs = s.ctxs.set c.val { finalContext (getCtx s c) f with extents := [] } c.isLt := by
  rw [← finalise_ctxs]
  simp [endReported, released]

theorem enterFinal_reported {f : FinalRec} (hb : (getCtx s c).binding = some b) (hw : s.orders.waitingDone = none)
    (hr : hasRoom s (endRecords s c b f).length = true) :
    enterFinal s c f = setCtx (endReported s c b f) c
      (endedContext (getCtx s c) f ((getWin s b.win).defn.any (·.isolate))) := by
  have hbind : (getCtx (released s c f) c).binding = some b := by
    rw [getCtx_released]
    exact hb
  have hwin : windowOf (released s c f) c = some b.win := by rw [windowOf, hbind]; rfl
  have hroom1 : hasRoom (released s c f) 1 = true := (leaves_released s c f).room
    (hasRoom_mono hr (by rw [endRecords, List.length_append, endGroup_length, List.length_nil]; omega))
  have htold : notifyWindow (released s c f) b.win f.state =
      build (setWin (released s c f) b.win (endedWindow (getWin s b.win) f.state))
        (fencedRecord (getWin s b.win) b.win f.state) := by
    rw [notifyWindow_eq _ hroom1, getWin_released]
  have hctxs : getCtx (notifyWindow (released s c f) b.win f.state) c = getCtx (released s c f) c :=
    getCtx_congr (by simp) c
  have hset : SameOwed (released s c f) (setWin (released s c f) b.win (endedWindow (getWin s b.win) f.state)) :=
    ⟨owes_of_set rfl (by rw [endedWindow_owes, getWin_released]), fun _ => rfl, rfl⟩
  have hleaves : Leaves s (notifyWindow (released s c f) b.win f.state) (fencedRecord (getWin s b.win) b.win f.state) := by
    rw [htold]
    exact ((leaves_released s c f).same hset.anyOwed rfl rfl rfl).build hw
  have hroom3 : hasRoom (notifyWindow (released s c f) b.win f.state) 3 = true :=
    hleaves.room (hasRoom_mono hr (by rw [endRecords, List.length_append, endGroup_length]))
  have hgroup : endGroup f c b (getCtx (released s c f) c) = endGroup f c b (getCtx s c) := by
    rw [getCtx_released]
    rfl
  have hhand : handTransferEnd (notifyWindow (released s c f) b.win f.state) c f = endReported s c b f := by
    rw [handTransferEnd_room (by rw [hctxs]; exact hbind) hroom3, hctxs, hgroup, htold]
    rfl
  have hcx : getCtx (endReported s c b f) c = { finalContext (getCtx s c) f with extents := [] } :=
    (getCtx_of_set (ctxs_endReported s c b f) c).trans (if_pos rfl)
  have hdefn : defnOf (endReported s c b f) c = (getWin s b.win).defn := by
    have hwo : windowOf (endReported s c b f) c = some b.win := by rw [windowOf, hcx]; simp [finalContext, hb]
    have hgw : getWin (endReported s c b f) b.win = endedWindow (getWin s b.win) f.state :=
      (getWin_congr (s := setWin (released s c f) b.win (endedWindow (getWin s b.win) f.state)) (by simp [endReported])
        b.win).trans (getWin_setWin_self _ _ _)
    simp only [defnOf, hwo, hgw]
    rfl
  have hfinal : enterFinal s c f = modCtx (endReported s c b f) c fun cx =>
      verdictContext cx f.state ((defnOf (endReported s c b f) c).any (·.isolate)) := by
    rw [enterFinal_eq]
    simp only [announceFinal]
    rw [show fenceOutcome (finalise s c f) c f.state = released s c f from rfl]
    simp only [hwin, hhand]
  rw [hfinal, modCtx, hcx, hdefn]
  congr 1
  unfold verdictContext endedContext finalContext
  by_cases hv : f.state = .verified
  · simp [hv]
  · by_cases hm : f.state = .mismatch <;> simp [hv, hm]

/-! ### The close of the event of a transfer's end -/

theorem sameOwed_endReported (s : State) (c : CtxId) (b : Binding) (f : FinalRec) (i : Bool) :
    SameOwed (endReported s c b f) (setCtx (endReported s c b f) c (endedContext (getCtx s c) f i)) := by
  refine ⟨fun _ => rfl, owed_of_set rfl ?_, rfl⟩
  rw [(getCtx_of_set (ctxs_endReported s c b f) c).trans (if_pos rfl)]
  rfl

theorem leaves_enterFinal {f : FinalRec} (hb : (getCtx s c).binding = some b) (hw : s.orders.waitingDone = none)
    (hr : hasRoom s (endRecords s c b f).length = true) : Leaves s (enterFinal s c f) (endRecords s c b f) := by
  rw [enterFinal_reported hb hw hr]
  exact (leaves_endReported f hw).same (sameOwed_endReported s c b f _).anyOwed rfl rfl rfl

theorem laneAndFence_congr {y : State} (hl : y.lanes = s.lanes) (hf : y.fence = s.fence) (l : LaneId) :
    laneAndFence y l = laneAndFence s l := Prod.ext (getLane_congr hl l) (getFence_congr hf l)

theorem heldReads_finalise (s : State) (c : CtxId) (f : FinalRec) : heldReads (finalise s c f) c = heldReads s c :=
  List.filterMap_congr fun l _ => heldReadOf_congr (laneAndFence_congr (by simp) (by simp) l)

theorem laneAndFence_released (s : State) (c : CtxId) (f : FinalRec) (l : LaneId) :
    laneAndFence (released s c f) l = outcomeLane s c l := by
  rw [released, laneAndFence_fenceOutcome]
  exact outcomeLane_congr (laneAndFence_congr (by simp) (by simp) l)

theorem counters_released (s : State) (c : CtxId) (f : FinalRec) :
    (released s c f).counters = { s.counters with
      reconDetached := min (s.counters.reconDetached + attachedCount s c) 4294967295
      partAnswers := if f.state = .verified then s.counters.partAnswers
        else raisedBy s.counters.partAnswers (heldReads s c).length
      fenceReleases := if f.state = .verified then raisedBy s.counters.fenceReleases (heldReads s c).length
        else s.counters.fenceReleases
      fenceFailures := if f.state = .verified then s.counters.fenceFailures
        else raisedBy s.counters.fenceFailures (heldReads s c).length } := by
  have hfin : (finalise s c f).counters = { s.counters with
      reconDetached := min (s.counters.reconDetached + attachedCount s c) 4294967295 } := by
    simp [finalise, detachSlots, returnList, modCounters, attachedCount, raise, Config.counterMax]
  rw [released, fenceOutcome_counters, heldReads_finalise, hfin]
  split <;> rfl

theorem upOut_released (s : State) (c : CtxId) (f : FinalRec) :
    (released s c f).upOut = s.upOut ++ if f.state = .verified then [] else (heldReads s c).map errorTo := by
  rw [released, fenceOutcome_upOut, heldReads_finalise, (finalise_frame s c f).2.2.2.1]

theorem port_released (s : State) (c : CtxId) (f : FinalRec) :
    (released s c f).port =
      { s.port with q1 := s.port.q1 ++ if f.state = .verified then (heldReads s c).map (forwardedReq · none) else [] } := by
  have hport : (finalise s c f).port = s.port := by simp
  rw [released, fenceOutcome_port, heldReads_finalise, hport]

/-- What a transfer's end makes of the parts that it changes, before the close of its event. -/
structure Ended (s x : State) (c : CtxId) (b : Binding) (f : FinalRec) : Prop where
  ctxs : x.ctxs = s.ctxs.set c.val (endedContext (getCtx s c) f ((getWin s b.win).defn.any (·.isolate))) c.isLt
  pool : x.pool = { s.pool with level := s.pool.level + (getCtx s c).extents.length }
  windows : x.windows = s.windows.set b.win.val (endedWindow (getWin s b.win) f.state) b.win.isLt
  slots : ∀ k, getSlot x k = detachSlot c (getSlot s k)
  lanes : ∀ k, laneAndFence x k = outcomeLane s c k
  upOut : x.upOut = s.upOut ++ if f.state = .verified then [] else (heldReads s c).map errorTo
  port : x.port =
    { s.port with q1 := s.port.q1 ++ if f.state = .verified then (heldReads s c).map (forwardedReq · none) else [] }
  counters : x.counters = (released s c f).counters

theorem enterFinal_ended {f : FinalRec} (hb : (getCtx s c).binding = some b) (hw : s.orders.waitingDone = none)
    (hr : hasRoom s (endRecords s c b f).length = true) : Ended s (enterFinal s c f) c b f := by
  rw [enterFinal_reported hb hw hr]
  exact
    { ctxs := by
        rw [setCtx, ctxs_endReported]
        simp
      pool := (by simp [endReported, released] : (setCtx (endReported s c b f) c _).pool = (finalise s c f).pool).trans
        (finalise_pool s c f)
      windows := by simp [endReported, released]
      slots := fun k => by
        rw [← getSlot_finalise s c f k]
        exact getSlot_congr (by simp [endReported, released]) k
      lanes := fun k => by
        rw [← laneAndFence_released s c f k]
        exact laneAndFence_congr (by simp [endReported]) (by simp [endReported]) k
      upOut := by
        rw [show (setCtx (endReported s c b f) c _).upOut = (released s c f).upOut by simp [endReported], upOut_released]
      port := by
        rw [show (setCtx (endReported s c b f) c _).port = (released s c f).port by simp [endReported], port_released]
      counters := by simp [endReported] }

/-- R48: what the close of an event in which a transfer has ended leaves, but for ATTN. -/
theorem transferEnded_but {b0 : State} {f : FinalRec} (hb : (getCtx s c).binding = some b) (hn : nothingOwed s = true)
    (hl : s.report.list.length + 4 ≤ 32) (hable : able b0 = true) :
    TransferEnded s { settle b0 (enterFinal s c f) with engine := s.engine } c b f := by
  obtain ⟨hown, hw⟩ := nothingOwed_spec hn
  have hr : hasRoom s (endRecords s c b f).length = true :=
    hasRoom_mono ((hasRoom_iff 4).mpr ⟨hl, hown⟩) (endRecords_length s c b f)
  have hc := (leaves_enterFinal (f := f) hb hw hr).close hn hable
  have hx := enterFinal_ended (f := f) hb hw hr
  have hframe := enterFinal_frame s c f
  generalize settle b0 (enterFinal s c f) = t at hc ⊢
  generalize enterFinal s c f = x at hc hx hframe
  obtain ⟨-, xstall, xserial, xbuilder, xtime, xorders, xsweeper, xchoices, xpending⟩ := hframe
  obtain ⟨⟨hwins, hctxs, hserial, hpool, hbuilder, hslots, hfence⟩, ⟨htime, hsweeper, hcounters, hchoices, hpending⟩,
    hlanes, hstall, hup⟩ := hc.sides
  have hlane (k : LaneId) : laneAndFence t k = outcomeLane s c k := (laneAndFence_congr hlanes hfence k).trans (hx.lanes k)
  refine ⟨hctxs.trans hx.ctxs, hpool.trans hx.pool, hwins.trans hx.windows, hc.reported, hc.seq,
    fun k => ⟨(getSlot_congr hslots k).trans (hx.slots k), (congrArg Prod.snd (hlane k)).trans ?_,
      (congrArg Prod.fst (hlane k)).trans ?_⟩, ?_, ?_, ?_, hc.ring, ?_, ?_⟩
  · rw [outcomeLane]
    split <;> rfl
  · rw [outcomeLane]
    split <;> rfl
  · rw [hup, hx.upOut]
    simp only [decide_eq_true_eq]
    rfl
  · rw [hc.port, hx.port]
    simp only [decide_eq_true_eq]
    rfl
  · rw [hcounters, hx.counters, counters_released]
    simp only [decide_eq_true_eq]
    rfl
  · rw [show ({ t with engine := s.engine } : State).stall = _ from hstall, hserial, hbuilder, htime, xstall, xserial,
      xbuilder, xtime]
  · rw [hc.orders, hsweeper, hchoices, hpending, xorders, xsweeper, xchoices, xpending]

/-- R48: the close of an event in which a transfer has ended. -/
theorem transferEnded {b0 : State} {f : FinalRec} (hb : (getCtx s c).binding = some b) (hn : nothingOwed s = true)
    (hl : s.report.list.length + 4 ≤ 32) (ha : s.engine.attn = attnLevel s) (hable : able b0 = true) :
    TransferEnded s (settle b0 (enterFinal s c f)) c b f := by
  obtain ⟨hown, hw⟩ := nothingOwed_spec hn
  have hengine : (settle b0 (enterFinal s c f)).engine = s.engine :=
    ((leaves_enterFinal (f := f) hb hw (hasRoom_mono ((hasRoom_iff 4).mpr ⟨hl, hown⟩)
      (endRecords_length s c b f))).close hn hable).engine_same ha
  have hended := transferEnded_but (b0 := b0) (f := f) hb hn hl hable
  rwa [← hengine] at hended

end Sys2Proof.Machine
end

section
/-! The ends of transfers by a tick, a memory error, a reconcile's return and its failure (R147, R61, R104 to R106). -/

set_option Elab.async false

namespace Sys2Proof.Machine

variable {s t x : State} {w : WinId} {c : CtxId} {l : LaneId} {b : Binding}

theorem getWin_of_set {y : Window} (h : t.windows = s.windows.set w.val y w.isLt) (k : WinId) :
    getWin t k = if w = k then y else getWin s k := by
  simp [getWin, h, Vector.getElem_set, Fin.ext_iff]

/-- A context's held read is there where its record and its lane's head are. -/
theorem heldReadOf_isSome {g : FenceRec} (hg : getFence s l = some g) (hc : g.ctx = c)
    (hh : (getLane s l).head.isSome = true) : (heldReadOf s c l).isSome = true := by
  simp [heldReadOf, hg, hc, hh]

/-- A record that a transfer's end leaves is another transfer's, or its lane has no head. -/
theorem fenceRest_all : (if (heldReadOf s c l).isSome then none else getFence s l).all
    (fun g => decide (g.ctx ≠ c ∨ (getLane s l).head = none)) = true := by
  cases hg : getFence s l with
  | none => simp
  | some g =>
    by_cases hc : g.ctx = c
    · cases hh : (getLane s l).head <;> simp [heldReadOf, hg, hc, hh]
    · split <;> simp [hc]

theorem endedContext_lost (x : Context) (k : Cause) (i : Bool) :
    endedContext x { state := .lost, cause := k } i =
      { x with
        state := .lost, first := some { state := .lost, cause := k }, idle := none, reconCount := 0, extents := [] } := by
  simp [endedContext]

theorem lane_eq {x y : Lane} (hh : x.head = y.head) (hb : x.backlog = y.backlog) : x = y := by
  cases x
  cases y
  simp_all

theorem Quiet.nothingOwed (h : Quiet s t) : nothingOwed t = nothingOwed s := by
  rw [Machine.nothingOwed, Machine.nothingOwed, h.owed.anyOwed, h.waitingDone]

/-! ### The verdict (R89, R90) -/

/-- R18: the final state of the verdict compare. -/
def verdictOf (x : Context) : FinalRec :=
  if x.chk = some x.acc then { state := .verified, cause := .checkEqual } else { state := .mismatch, cause := .checkUnequal }

theorem verdictOccasion_due (h : verdictDue (getCtx s c) = true) :
    verdictOccasion s c = enterFinal s c (verdictOf (getCtx s c)) := by
  simp only [verdictOccasion, verdictOf, if_pos h]
  split <;> rfl

theorem verdictOccasion_waits (h : verdictDue (getCtx s c) = false) : verdictOccasion s c = s := by
  simp [verdictOccasion, h]

/-! ### The answers to tracked writes (R61) -/

/-- The state after a response is relayed. -/
def relayed (s : State) (id : Nat) (f : FwdRecord) (r : MemResp) : State :=
  respond (retireIssued s id) { lane := f.lane, ident := f.ident, resp := r }

/-- The state after an ERROR is relayed and counted. -/
def errorRelayed (s : State) (id : Nat) (f : FwdRecord) : State :=
  modCounters (relayed s id f .error) fun c => { c with memErrors := raise c.memErrors 1 }

section Relay

variable {id : Nat} {resp : MemResp} {m : MemReq} {f : FwdRecord}

theorem execResponseRelay_okay (hm : findIssued s id = some m) (ho : m.owner = .forwarded f)
    (hf : respFits m resp = true) (hr : resp ≠ .error ∨ s.engine.state ≠ .running) :
    execResponseRelay id resp s = .next (relayed s id f resp) := by
  obtain ⟨kind, addr, count, data, owner⟩ := m
  cases ho
  simp only [execResponseRelay, hm, hf]
  cases resp with
  | okay d => rfl
  | error =>
    have hrun : isRunning s = false := decide_eq_false (hr.resolve_left fun h => h rfl)
    rw [hrun]
    rfl

theorem execResponseRelay_error (hm : findIssued s id = some m) (ho : m.owner = .forwarded f)
    (hf : respFits m .error = true) (hrun : s.engine.state = .running) :
    execResponseRelay id .error s = .next (settle s (memoryError (errorRelayed s id f) f.tracked)) := by
  obtain ⟨kind, addr, count, data, owner⟩ := m
  cases ho
  have hr : isRunning s = true := decide_eq_true hrun
  simp only [execResponseRelay, hm, hf, hr]
  rfl

/-- R61: the named context holds the transfer number and is COLLECTING. -/
def reaches (s : State) (x : CtxId × Word32) : Bool :=
  decide ((getCtx s x.1).binding.map (·.number) = some x.2) && decide ((getCtx s x.1).state = .collecting)

theorem memoryError_discarded {k : Option (CtxId × Word32)} (h : k.any (reaches s) = false) : memoryError s k = s := by
  cases k with
  | none => rfl
  | some k =>
    obtain ⟨c, n⟩ := k
    simp only [memoryError]
    split
    next hn =>
      refine if_neg fun hc => ?_
      have : reaches s (c, n) = true := by simp [reaches, hn, hc]
      rw [Option.any_some, this] at h
      cases h
    next => rfl

theorem memoryError_reaches {k : CtxId × Word32} (h : reaches s k = true) :
    memoryError s (some k) = enterFinal s k.1 { state := .lost, cause := .memoryError } := by
  simp only [reaches, Bool.and_eq_true, decide_eq_true_eq] at h
  exact (if_pos h.1).trans (if_pos h.2)

theorem binding_of_reaches {k : CtxId × Word32} (h : reaches s k = true) : ∃ b, (getCtx s k.1).binding = some b := by
  simp only [reaches, Bool.and_eq_true, decide_eq_true_eq] at h
  obtain ⟨hn, -⟩ := h
  cases hb : (getCtx s k.1).binding with
  | none => rw [hb] at hn; cases hn
  | some b => exact ⟨b, rfl⟩

end Relay

/-! ### The reconcile's read returns (R104 to R106) -/

section Reconcile

variable {id : Nat} {m : MemReq} {q : ReconRec}

theorem execReconcileReadReturn_fits {data : List Byte} (hm : findIssued s id = some m) (ho : m.owner = .reconcile l)
    (hq : getSlot s l = .attached c q) (hrun : s.engine.state = .running) (hd : data.length = m.count) :
    execReconcileReadReturn id data s = .next (settle s (completeReconcile (retireIssued s id) l c q data)) := by
  obtain ⟨kind, addr, count, mdata, owner⟩ := m
  cases ho
  have hr : ¬ isRunning s = false := by simp [isRunning, hrun]
  simp only [execReconcileReadReturn, hm, hq]
  rw [if_neg hr, if_pos hd]

theorem execReconcileReadError_attached (hm : findIssued s id = some m) (ho : m.owner = .reconcile l)
    (hq : getSlot s l = .attached c q) (hrun : s.engine.state = .running) :
    execReconcileReadError id s = .next (settle s (failReconcile (retireIssued s id) l c q)) := by
  obtain ⟨kind, addr, count, mdata, owner⟩ := m
  cases ho
  have hr : ¬ isRunning s = false := by simp [isRunning, hrun]
  simp only [execReconcileReadError, hm, hq]
  rw [if_neg hr]

theorem execDetachedReadReturn_detached {resp : MemResp} (hm : findIssued s id = some m) (ho : m.owner = .reconcile l)
    (hq : getSlot s l = .detached q) :
    execDetachedReadReturn id resp s =
      .next (freeSlot (forwardHead (retireIssued s id) l q.write none) l q.write) := by
  obtain ⟨kind, addr, count, mdata, owner⟩ := m
  cases ho
  simp only [execDetachedReadReturn, hm, hq]

/-- R105: the state in which a failed reconcile's transfer is lost. -/
def reconcileFailed (s : State) (l : LaneId) (c : CtxId) (q : ReconRec) : State :=
  releaseConflicts (setSlot (clearHead (failedPort s c q) l) l .empty) q.write

theorem failReconcile_lost (h : (getCtx s c).state = .collecting) :
    failReconcile s l c q = enterFinal (reconcileFailed s l c q) c { state := .lost, cause := .reconcileError } :=
  (failReconcile_eq s l c q).trans (if_pos h)

theorem head_freeSlot_clearHead (s : State) (l : LaneId) (r : Request) :
    (getLane (freeSlot (clearHead s l) l r) l).head = none := by
  have hl : getLane (setSlot (clearHead s l) l .empty) l = { getLane s l with head := none } :=
    (getLane_clearHead s l l).trans (if_pos rfl)
  rw [freeSlot, releaseConflicts, getLane_releaseHeads, hl]
  rfl

theorem backlog_clearHead (s : State) (l k : LaneId) : (getLane (clearHead s l) k).backlog = (getLane s k).backlog := by
  rw [getLane_clearHead]
  split
  next h => rw [h]
  next => rfl

/-- R111: a head held for CONFLICT against a write after its release. -/
theorem releaseHead_conflict (r : Request) (x : Lane) :
    (releaseHead (fun a h => decide (h = .conflict) && requestsMeet a r) x).head =
      (match x.head with
        | some { req := a, standing := .held .conflict } =>
          some { req := a, standing := if requestsMeet a r then .released else .held .conflict }
        | some h => some h
        | none => none) := by
  obtain ⟨head, backlog⟩ := x
  cases head with
  | none => rfl
  | some h =>
    obtain ⟨a, standing⟩ := h
    cases standing with
    | held k =>
      cases k with
      | conflict => cases hm : requestsMeet a r <;> simp [releaseHead, hm]
      | priming | reconcile | fence => rfl
    | fresh | released => rfl

/-- R104: the state after a reconcile's return, before the occasion of a verdict. -/
def reconciled (s : State) (l : LaneId) (c : CtxId) (q : ReconRec) (old : List Byte) (n : Word32) : State :=
  freeSlot (forwardHead (modCounters (modCtx s c fun cx => correctedContext cx q old)
    fun k => { k with reconCompleted := raise k.reconCompleted 1 }) l q.write (some (c, n))) l q.write

theorem completeReconcile_eq {old : List Byte} (hb : (getCtx s c).binding = some b) :
    completeReconcile s l c q old =
      if (getCtx (reconciled s l c q old b.number) c).reconCount = 0 then
        verdictOccasion (reconciled s l c q old b.number) c
      else reconciled s l c q old b.number := by
  have htrack : trackOf (modCounters (modCtx s c fun cx => correctedContext cx q old)
      fun k => { k with reconCompleted := raise k.reconCompleted 1 }) c = some (c, b.number) := by
    have hbind : (correctedContext (getCtx s c) q old).binding = some b :=
      (correctedContext_frame (getCtx s c) q old).2.1.trans hb
    rw [trackOf, getCtx_modCounters, getCtx_modCtx_self, hbind]
    rfl
  simp only [completeReconcile, htrack]
  rfl

theorem completeReconcile_open {old : List Byte} (hb : (getCtx s c).binding = some b)
    (h : verdictDue (getCtx (reconciled s l c q old b.number) c) = false) :
    completeReconcile s l c q old = reconciled s l c q old b.number := by
  rw [completeReconcile_eq hb, verdictOccasion_waits h]
  split <;> rfl

theorem completeReconcile_verdict {old : List Byte} (hb : (getCtx s c).binding = some b)
    (h : verdictDue (getCtx (reconciled s l c q old b.number) c) = true) :
    completeReconcile s l c q old = enterFinal (reconciled s l c q old b.number) c
      (verdictOf (getCtx (reconciled s l c q old b.number) c)) := by
  have h0 : (getCtx (reconciled s l c q old b.number) c).reconCount = 0 := by
    simp only [verdictDue, Bool.and_eq_true, decide_eq_true_eq] at h
    exact h.1.2
  rw [completeReconcile_eq hb, if_pos h0, verdictOccasion_due h]

end Reconcile

end Sys2Proof.Machine

open Sys2Proof Sys2Proof.Machine

/-- Settles O37. -/
theorem idleCountEndExpires : Obligations.IdleCountEndExpires := by
  intro c b n s hrun hc hd hn hb
  have hexec := exec_idleCountEnd_collecting hrun hd hc
  refine ⟨fun hle how hlen => ⟨_, hexec, ?_⟩, fun hge => hexec.trans (congrArg _ (ageIdle_lowers (s := ageTaken s c) hn hge))⟩
  have hend := transferEnded_but (s := ageTaken s c) (b0 := ageTaken s c) (f := { state := .expired, cause := .idle }) hb how
    hlen (able_of_room (s := ageTaken s c) hrun how hlen (by simp))
  rw [← ageIdle_ends (s := ageTaken s c) hn hle] at hend
  obtain ⟨hctxs, hpool, hwins, -, -, hlanes, -, hport, -, -, hrest, horders⟩ := hend
  simp only [Prod.mk.injEq] at hrest horders
  obtain ⟨-, hstall, hserial, hbuilder, htime⟩ := hrest
  obtain ⟨hord, hsweeper, -, -⟩ := horders
  have hwin := getWin_of_set (s := ageTaken s c) hwins
  refine ⟨hctxs.trans ?_, hpool, fun k => ⟨(hlanes k).1, fun hf hh => ?_⟩, ?_, ?_, fun w hw => ?_, ?_, hserial, hbuilder,
    htime, hsweeper, hstall, congrArg _ hord⟩
  · simp only [endedContext]
    rfl
  · obtain ⟨g, hg⟩ := Option.isSome_iff_exists.mp (Option.isSome_of_any hf)
    have hheld : (heldReadOf (ageTaken s c) c k).isSome = true :=
      heldReadOf_isSome (s := ageTaken s c) hg (by simpa [hg] using hf) hh
    obtain ⟨-, hfence, hlane⟩ := hlanes k
    exact ⟨hfence.trans (if_pos hheld), congrArg Lane.head (hlane.trans (if_pos hheld))⟩
  · exact congrArg Window.strikes ((hwin b.win).trans (if_pos rfl))
  · exact congrArg (fun x : Window => x.counters.failed) ((hwin b.win).trans (if_pos rfl))
  · exact (hwin w).trans (if_neg (Ne.symm hw))
  · exact hport.trans (by simp only [reduceCtorEq, Bool.false_eq_true, if_false, decide_false, List.append_nil]; rfl)

/-- Settles O19. -/
theorem responsesAreRelayed : Obligations.ResponsesAreRelayed := by
  intro id resp m f s hs hm ho hf
  refine ⟨execResponseRelay_okay hm ho hf, fun hr hrun hreach => ?_, fun k hk hr hrun hreach how hlen => ?_⟩ <;> subst hr
  · have hexec := execResponseRelay_error hm ho hf hrun
    rw [memoryError_discarded (s := errorRelayed s id f) hreach] at hexec
    exact hexec.trans (congrArg _ (Quiet.settle (Quiet.of_eq rfl rfl rfl rfl rfl) hs))
  · have hexec := execResponseRelay_error hm ho hf hrun
    rw [hk] at hreach hexec
    have hreached : reaches (errorRelayed s id f) k = true := hreach
    obtain ⟨b, hb⟩ := binding_of_reaches hreached
    rw [memoryError_reaches hreached] at hexec
    have hend := transferEnded (s := errorRelayed s id f) (b0 := s) (f := { state := .lost, cause := .memoryError }) hb how
      hlen hs.1 (able_of_room hrun how hlen (by simp))
    obtain ⟨hctxs, hpool, -, -, -, hlanes, hup, hport, hcounters, -, hrest, horders⟩ := hend
    simp only [Prod.mk.injEq] at hrest horders
    obtain ⟨-, -, hserial, hbuilder, htime⟩ := hrest
    obtain ⟨hord, hsweeper, -, -⟩ := horders
    refine ⟨_, hexec, hctxs.trans ?_, hpool, ?_, by rw [hport]; rfl, by rw [hcounters]; rfl, fun j => ⟨?_, ?_⟩, hserial,
      hbuilder, htime, hsweeper, congrArg OrderUnit.shadow hord⟩
    · rw [endedContext_lost]
      rfl
    · rw [hup]
      exact List.take_left' (by simp [errorRelayed, relayed, respond, retireIssued])
    · rw [(hlanes j).1, attachedTo_detachSlot]
      simp
    · obtain ⟨-, hfence, -⟩ := hlanes j
      rw [hfence]
      exact fenceRest_all (s := errorRelayed s id f)

/-- Settles O35. -/
theorem reconcileErrorsAndDetachedReads : Obligations.ReconcileErrorsAndDetachedReads := by
  intro id l m s hm ho
  refine ⟨fun c q b hs hrun hq hc hb how hlen hf => ?_, fun q resp hq =>
    ⟨_, execDetachedReadReturn_detached (resp := resp) hm ho hq, ?_, ?_, ?_, ?_, ?_, ?_, ?_, ?_⟩⟩
  · have hexec := execReconcileReadError_attached hm ho hq hrun
    rw [failReconcile_lost (s := retireIssued s id) hc] at hexec
    have hend := transferEnded (s := reconcileFailed (retireIssued s id) l c q) (b0 := s)
      (f := { state := .lost, cause := .reconcileError }) hb how hlen hs.1 (able_of_room hrun how hlen (by simp))
    obtain ⟨hctxs, hpool, -, -, -, hlanes, hup, hport, hcounters, -, hrest, horders⟩ := hend
    simp only [Prod.mk.injEq] at hrest horders
    obtain ⟨-, -, hserial, hbuilder, htime⟩ := hrest
    obtain ⟨-, hsweeper, -, -⟩ := horders
    have hslot (k : LaneId) : getSlot (reconcileFailed (retireIssued s id) l c q) k = if l = k then .empty else getSlot s k :=
      getSlot_setSlot _ l k _
    refine ⟨_, hexec, hctxs.trans ?_, ?_, ?_, fun k hk => ?_, ?_, by rw [hport]; rfl, by rw [hcounters]; rfl,
      by rw [hcounters]; rfl, hpool, hserial, hbuilder, htime, hsweeper⟩
    · rw [endedContext_lost]
      rfl
    · rw [(hlanes l).1, hslot, if_pos rfl]
      rfl
    · have hhead : (getLane (reconcileFailed (retireIssued s id) l c q) l).head = none :=
        head_freeSlot_clearHead (failedPort (retireIssued s id) c q) l q.write
      obtain ⟨-, -, hlane⟩ := hlanes l
      refine (congrArg Lane.head hlane).trans ?_
      split
      · rfl
      · exact hhead
    · rw [(hlanes k).1, hslot, if_neg (Ne.symm hk)]
    · rw [hport]
      have htrack : trackOf (retireIssued s id) c = some (c, b.number) := by
        rw [trackOf, show (getCtx (retireIssued s id) c).binding = some b from hb]
        rfl
      have hq1 : (reconcileFailed (retireIssued s id) l c q).port.q1 =
          s.port.q1 ++ [forwardedReq q.write (trackOf (retireIssued s id) c)] := rfl
      dsimp only
      rw [hq1, htrack]
      exact List.append_nil _
  · rfl
  · exact head_freeSlot_clearHead (forward (retireIssued s id) q.write none) l q.write
  · intro k
    rw [freeSlot, releaseConflicts, getLane_releaseHeads, releaseHead_backlog]
    exact backlog_clearHead (forward (retireIssued s id) q.write none) l k
  all_goals rfl

/-- Settles O34. -/
theorem reconcileReturnCorrects : Obligations.ReconcileReturnCorrects := by
  intro id data l c q m b s hs hrun hm ho hd hq hc hb hne cx corrected unheld after
  have hexec := execReconcileReadReturn_fits hm ho hq hrun hd
  have hafter : reconciled (retireIssued s id) l c q data b.number = after := by
    have hcorrected : correctedContext (getCtx s c) q data = corrected := if_pos hc
    have hunheld : releaseHead (fun a h => decide (h = .conflict) && requestsMeet a q.write) = unheld :=
      funext fun x => lane_eq (releaseHead_conflict q.write x) (releaseHead_backlog _ x)
    calc reconciled (retireIssued s id) l c q data b.number
        = { after with
            ctxs := s.ctxs.set c.val (correctedContext (getCtx s c) q data) c.isLt
            lanes := (headGone s l).map
              (releaseHead (fun a h => decide (h = .conflict) && requestsMeet a q.write)) } := rfl
      _ = after := by rw [hcorrected, hunheld]
  have hquiet : Quiet s after := ⟨rfl, ⟨fun _ => rfl, owed_of_set rfl rfl, rfl⟩, rfl⟩
  have hctx : getCtx after c = corrected := getCtx_of_set (s := s) (t := after) rfl c |>.trans (if_pos rfl)
  refine ⟨fun hopen => ?_, fun h1 htaken hcomplete how hlen => ?_⟩
  · have hdue : verdictDue (getCtx after c) = false := by
      rw [hctx]
      rcases hopen with h | h | h
      · have hn : corrected.reconCount ≠ 0 := fun h0 => by
          have hpos : (getCtx s c).reconCount ≠ 0 := hne
          have hone : (getCtx s c).reconCount ≠ 1 := h
          have hzero : (getCtx s c).reconCount - 1 = 0 := h0
          clear_value cx
          omega
        simp [verdictDue, hn]
      · simp [verdictDue, corrected, h]
      · simp [verdictDue, corrected, h]
    rw [completeReconcile_open (s := retireIssued s id) hb (by rw [hafter]; exact hdue), hafter] at hexec
    exact hexec.trans (congrArg _ (hquiet.settle hs))
  · have hdue : verdictDue (getCtx after c) = true := by
      rw [hctx]
      simp [verdictDue, corrected, h1, htaken, hcomplete, cx, hc]
    rw [completeReconcile_verdict (s := retireIssued s id) hb (by rw [hafter]; exact hdue), hafter, hctx] at hexec
    refine ⟨_, hexec, ?_⟩
    exact transferEnded (s := after) (b := b) (by rw [hctx]; exact hb) (hquiet.nothingOwed.trans how) hlen hs.1 (able_of_room hrun how hlen (by simp))
end

section
/-! CLOSE (R52). -/

set_option Elab.async false

namespace Sys2Proof.Machine

variable {s t x : State} {o : Order} {w : WinId} {c : CtxId} {l : LaneId} {b : Binding}

theorem orderBay_noWindow (h : o.window = none) : orderBay o s = .inl .badWindow := by simp [orderBay, h]

theorem orderBay_off (hw : o.window = some w) (hr : (getWin s w).region = none) : orderBay o s = .inl .badWindow := by
  simp [orderBay, hw, hr]

theorem orderBay_beyond {d : WinDef} (hw : o.window = some w) (hr : (getWin s w).region = some d) (hb : d.count ≤ o.bay) :
    orderBay o s = .inl .badBay := by
  simp only [orderBay, hw, hr]
  exact if_pos hb

theorem orderBay_unbound {d : WinDef} (hw : o.window = some w) (hr : (getWin s w).region = some d) (hb : o.bay < d.count)
    (hl : lookup s w o.bay = none) : orderBay o s = .inl .notBound := by
  simp only [orderBay, hw, hr, hl]
  exact if_neg (Nat.not_le.mpr hb)

theorem orderClose_refused {st : Status} (h : orderBay o s = .inl st) : orderClose o s = (s, plain st) := by
  simp only [orderClose, h]

theorem orderClose_final (h : orderBay o s = .inr (w, c)) (hs : (getCtx s c).state.isFinal = true ∨ (getCtx s c).state = .guard) :
    orderClose o s = (s, plain .final) := by
  simp only [orderClose, h]
  refine if_neg ?_
  rintro (hp | hp) <;> rw [hp] at hs <;> simp [CtxState.isFinal] at hs

theorem orderClose_closes (h : orderBay o s = .inr (w, c))
    (hs : (getCtx s c).state = .priming ∨ (getCtx s c).state = .collecting) :
    orderClose o s = (closeContext s w o.bay c, { status := .done, ctx := some c, value := none }) := by
  simp only [orderClose, h]
  exact if_pos hs

theorem abandonBuild_eq (b : Builder) (c : CtxId) :
    abandonBuild b c = if b.building = some c then { building := b.queue.head?, queue := b.queue.tail }
      else { b with queue := b.queue.filter fun k => decide (k ≠ c) } := by
  rw [abandonBuild]
  split
  · obtain ⟨building, queue⟩ := b
    cases queue <;> rfl
  · rfl

/-- R8: an abandoned build is neither in progress nor queued. -/
theorem abandonBuild_gone (h : BuilderInv s) (c : CtxId) :
    (abandonBuild s.builder c).building ≠ some c ∧ c ∉ (abandonBuild s.builder c).queue := by
  obtain ⟨hnodup, -, hidle⟩ := h
  obtain ⟨-, hmem, -⟩ := abandonBuild_spec c hnodup hidle
  refine ⟨fun hb => (hmem c ?_).2 rfl, fun hq => (hmem c ?_).2 rfl⟩
  · simp [buildList, hb]
  · simp [buildList, hq]

/-- R34: an abort leaves its window's entry. -/
theorem endedWindow_aborted (x : Window) : endedWindow x .aborted = x := by
  simp [endedWindow, fencedBy, strikesAfter, CtxState.strikes]

theorem endRecords_aborted (s : State) (c : CtxId) (b : Binding) (k : Cause) :
    endRecords s c b { state := .aborted, cause := k } = endGroup { state := .aborted, cause := k } c b (getCtx s c) := by
  simp [endRecords, fencedRecord, fencedBy, CtxState.strikes]

/-- The answers to the held reads of a context, told by the fence records. -/
theorem heldReads_errors (s : State) (c : CtxId) :
    (heldReads s c).map errorTo = (allLanes.filter fun k => (getFence s k).any fun g => decide (g.ctx = c)).filterMap
      fun k => (getLane s k).head.map fun h => errorTo h.req := by
  rw [heldReads, List.map_filterMap, List.filterMap_filter]
  congr 1
  funext k
  rw [heldReadOf]
  split <;> simp [Function.comp_def]

theorem fence_outcomeLane (s : State) (c : CtxId) (k : LaneId) :
    (outcomeLane s c k).2.isSome =
      ((getFence s k).isSome && ((getFence s k).all (fun g => decide (g.ctx ≠ c)) || (getLane s k).head.isNone)) := by
  unfold outcomeLane heldReadOf laneAndFence
  cases getFence s k with
  | none => simp
  | some g =>
    by_cases hc : g.ctx = c
    · cases (getLane s k).head <;> simp [hc]
    · simp [hc]

/-- R52: the builder and the lanes after a close, whose other effects are those of the transfer's end. -/
def closeRest (x : State) (b : Builder) (w : WinId) (bay : Nat) : State := releasePriming { x with builder := b } w bay

theorem closeContext_eq (s : State) (w : WinId) (bay : Nat) (c : CtxId) :
    closeContext s w bay c =
      closeRest (enterFinal s c { state := .aborted, cause := .closed }) (abandonBuild s.builder c) w bay := by
  rw [closeContext, (enterFinal_frame s c _).2.2.2.1]
  rfl

theorem Leaves.closeRest {rs : List Report} {bld : Builder} {bay : Nat} (h : Leaves s x rs) :
    Leaves s (closeRest x bld w bay) rs :=
  h.same (SameOwed.anyOwed ⟨fun _ => rfl, fun _ => rfl, rfl⟩) rfl rfl rfl

theorem backlog_closeRest (x : State) (b : Builder) (w : WinId) (bay : Nat) (k : LaneId) :
    (getLane (closeRest x b w bay) k).backlog = (getLane x k).backlog := by
  rw [Machine.closeRest, releasePriming, getLane_releaseHeads, releaseHead_backlog]
  rfl

theorem backlog_outcomeLane (s : State) (c : CtxId) (k : LaneId) : (outcomeLane s c k).1.backlog = (getLane s k).backlog := by
  unfold outcomeLane
  split <;> rfl

end Sys2Proof.Machine

open Sys2Proof Sys2Proof.Machine

/-- Settles O26. -/
theorem closeAbortsATransfer : Obligations.CloseAbortsATransfer := by
  intro o s hbuild hf hcode
  have hexec := exec_closeTransfer hf hcode
  refine ⟨fun hw => answers hf hexec (orderClose_refused (orderBay_noWindow hw)), fun w hw =>
    ⟨fun hr => answers hf hexec (orderClose_refused (orderBay_off (s := clearDue s) hw hr)), fun d hr =>
      ⟨fun hb => answers hf hexec (orderClose_refused (orderBay_beyond (s := clearDue s) hw hr hb)),
        fun hb hl => answers hf hexec (orderClose_refused (orderBay_unbound (s := clearDue s) hw hr hb hl)),
        fun c b hb hl hbind => ⟨fun hst => answers hf hexec (orderClose_final (s := clearDue s)
          (orderBay_bound (s := clearDue s) hw hr hb hl) hst), fun hst hlen => ⟨_, hexec, ?_⟩⟩⟩⟩⟩
  have hclose := orderClose_closes (s := clearDue s) (orderBay_bound (s := clearDue s) hw hr hb hl) hst
  obtain ⟨hrun, hwait, -, howed⟩ := able_spec hf.able
  rw [closeContext_eq] at hclose
  have hroom : hasRoom (clearDue s) (endRecords (clearDue s) c b { state := .aborted, cause := .closed }).length = true := by
    rw [endRecords_aborted]
    exact (hasRoom_iff (s := clearDue s) 3).mpr ⟨hlen, howed⟩
  have hx := enterFinal_ended (s := clearDue s) (f := { state := .aborted, cause := .closed }) hbind hwait hroom
  have hfin := leaves_enterFinal (s := clearDue s) (f := { state := .aborted, cause := .closed }) hbind hwait hroom
  have hframe := enterFinal_frame (clearDue s) c { state := .aborted, cause := .closed }
  rw [endRecords_aborted] at hfin
  generalize enterFinal (clearDue s) c { state := .aborted, cause := .closed } = x at hx hfin hframe hclose
  obtain ⟨-, xstall, xserial, -, xtime, xorders, xsweeper, -, -⟩ := hframe
  have hleaves : Leaves s (closeRest x (abandonBuild s.builder c) w o.bay)
      (endGroup { state := .aborted, cause := .closed } c b (getCtx s c)) :=
    (((Leaves.refl s).same (y := clearDue s) rfl rfl rfl rfl).append hfin).closeRest
  have hport : (closeRest x (abandonBuild s.builder c) w o.bay).port = { s.port with q3 := s.port.q3 ++ [] } := by
    refine hx.port.trans ?_
    simp only [reduceCtorEq, if_false, List.append_nil]
    rfl
  obtain ⟨htook, hring, hlane, htrack, hclock⟩ := takeOrder_took hf rfl hclose
    (hleaves.order (blocks := []) hf hlen xorders hport)
  generalize takeOrder orderClose o s = t at htook hring hlane htrack hclock ⊢
  obtain ⟨hwin, hctx, hserial, hpool, hbuilder, hslots, hfence⟩ := trackSide_windows htrack
  obtain ⟨htime, hsweep, -⟩ := clockSide_parts hclock
  simp only [laneSide, Prod.mk.injEq] at hlane
  obtain ⟨hlanes, hstall, hup⟩ := hlane
  obtain ⟨hrep, -, hshadow, hslot, -, -, -, htport⟩ := htook
  have hgone := abandonBuild_gone hbuild c
  have hbuilt : t.builder = abandonBuild s.builder c := hbuilder
  refine ⟨?_, hctx.trans (hx.ctxs.trans ?_), hpool.trans hx.pool, hwin.trans (hx.windows.trans ?_), hserial.trans xserial,
    by rw [hbuilt, abandonBuild_eq], by rw [hbuilt]; exact hgone.1, by rw [hbuilt]; exact hgone.2,
    fun k => ⟨(getSlot_congr hslots k).trans (hx.slots k), ?_, ?_⟩, hup.trans (hx.upOut.trans ?_), hslot, hshadow, ?_,
    hring.trans hleaves.ring, htime.trans xtime, hsweep.trans xsweeper, hstall.trans xstall⟩
  · rw [hrep]
    rfl
  · simp only [endedContext, reduceCtorEq, if_false]
    rfl
  · rw [endedWindow_aborted]
    exact Vector.set_getElem_self _
  · rw [show getFence t k = (laneAndFence x k).2 from getFence_congr hfence k, hx.lanes, fence_outcomeLane]
    rfl
  · rw [show getLane t k = getLane (closeRest x (abandonBuild s.builder c) w o.bay) k from getLane_congr hlanes k,
      backlog_closeRest, show getLane x k = (laneAndFence x k).1 from rfl, hx.lanes, backlog_outcomeLane]
    rfl
  · simp only [reduceCtorEq, if_false]
    rw [heldReads_errors]
    rfl
  · rw [htport, List.append_nil]
end

section
/-! Writes into the bay of a COLLECTING transfer (R57, R68 to R74, R83 to R90, R98 to R102). -/

set_option Elab.async false

namespace Sys2Proof.Machine

variable {s t x : State} {r : Request} {l : LaneId} {c : CtxId} {b : Binding} {u : Touch} {v : Division}

/-! ### The state of a taken write -/

/-- The division of a write's bytes in the payload area of its bay (R69). -/
def divisionOf (cx : Context) (u : Touch) : Division := divide cx.extents cx.len u.lo (min u.hi u.d.capacity - u.lo)

/-- The state after the new pieces of a write are inserted and accounted (R70, R73). -/
def piecesTaken (s : State) (c : CtxId) (u : Touch) (data : List Byte) (v : Division) : State :=
  { s with
    pool := poolTaken s.pool (getCtx s c) u v
    ctxs := s.ctxs.set c.val (payloadTaken (getCtx s c) u data v) c.isLt }

theorem reloadIdle_eq (s : State) (c : CtxId) (d : WinDef) :
    reloadIdle s c d = setCtx s c { getCtx s c with idle := some d.idleLimit } := rfl

theorem getCtx_reloadIdle (s : State) (c : CtxId) (d : WinDef) :
    getCtx (reloadIdle s c d) c = { getCtx s c with idle := some d.idleLimit } := getCtx_setCtx_self s c _

theorem piecesTaken_stray (data : List Byte) (hf : v.fresh = []) :
    (modCtx (reloadIdle s c u.d) c fun x => accountWrite x u.lo data v) = piecesTaken s c u data v := by
  rw [modCtx, getCtx_reloadIdle, reloadIdle_eq]
  simp [piecesTaken, payloadTaken, poolTaken, accountWrite, hf, setCtx, raise, Config.counterMax]

theorem piecesTaken_inserted (data : List Byte) (hf : v.fresh ≠ []) :
    (modCtx (insertPieces (reloadIdle s c u.d) c u.lo v.stop) c fun x => accountWrite x u.lo data v) =
      piecesTaken s c u data v := by
  have hctx : getCtx (insertPieces (reloadIdle s c u.d) c u.lo v.stop) c =
      { getCtx s c with idle := some u.d.idleLimit, extents := insertRange u.lo v.stop (getCtx s c).extents } := by
    simp only [insertPieces, getCtx_modCtx_self]
    rw [show getCtx (setPool (reloadIdle s c u.d) _) c = getCtx (reloadIdle s c u.d) c from rfl, getCtx_reloadIdle]
  rw [modCtx, hctx, insertPieces, getCtx_reloadIdle]
  simp [piecesTaken, payloadTaken, poolTaken, accountWrite, hf, setCtx, raise, Config.counterMax, modCtx, setPool, reloadIdle]

/-- R71: where the insertion can be made it has no failure. -/
theorem insertionFailure_fits (hf : v.fresh ≠ []) (h : insertionFits s.pool (getCtx s c) u v) :
    insertionFailure (reloadIdle s c u.d) c u.d u.lo v.stop = none := by
  rw [insertionFailure, getCtx_reloadIdle]
  rcases h with h | h | ⟨hb, hl⟩
  · exact absurd h hf
  · exact if_neg h
  · dsimp only
    split
    · rw [if_neg (Nat.not_le.mpr hb)]
      exact if_neg hl
    · rfl

/-- R71: EXTENT-BUDGET before POOL-EMPTY. -/
theorem insertionFailure_fails (hm : meetCount u.lo v.stop (getCtx s c).extents = 0)
    (h : u.d.budget ≤ (getCtx s c).extents.length ∨ s.pool.level = 0) :
    insertionFailure (reloadIdle s c u.d) c u.d u.lo v.stop =
      some (if u.d.budget ≤ (getCtx s c).extents.length then .extentBudget else .poolEmpty) := by
  rw [insertionFailure, getCtx_reloadIdle]
  dsimp only
  rw [if_pos hm]
  split
  · rfl
  next hb => exact if_pos (h.resolve_left hb)

theorem takeWrite_payload (hp : u.hasPayload = true) : takeWrite s l r u c = takePayload (reloadIdle s c u.d) l r u c := by
  simp only [takeWrite, hp]
  rfl

theorem divide_reloadIdle : divide (getCtx (reloadIdle s c u.d) c).extents (getCtx (reloadIdle s c u.d) c).len u.lo
    (min u.hi u.d.capacity - u.lo) = divisionOf (getCtx s c) u := by
  rw [getCtx_reloadIdle]
  rfl

theorem takeWrite_rejected (hp : u.hasPayload = true) (ho : (divisionOf (getCtx s c) u).overlap ≠ [])
    (hr : u.d.overlap = .reject) : takeWrite s l r u c = refuseWrite (reloadIdle s c u.d) l r u c := by
  rw [takeWrite_payload hp]
  simp only [takePayload, divide_reloadIdle]
  exact if_pos ⟨hr, ho⟩

theorem takeWrite_fails (hp : u.hasPayload = true) (ho : (divisionOf (getCtx s c) u).overlap = [] ∨ u.d.overlap ≠ .reject)
    (hf : (divisionOf (getCtx s c) u).fresh ≠ []) {k : Cause}
    (hk : insertionFailure (reloadIdle s c u.d) c u.d u.lo (divisionOf (getCtx s c) u).stop = some k) :
    takeWrite s l r u c = enterFinal (forwardHead (reloadIdle s c u.d) l r (trackOf (reloadIdle s c u.d) c)) c
      { state := .lost, cause := k } := by
  have hn : ¬ (u.d.overlap = .reject ∧ (divisionOf (getCtx s c) u).overlap ≠ []) := fun h => ho.elim h.2 fun h' => h' h.1
  rw [takeWrite_payload hp]
  simp only [takePayload, divide_reloadIdle]
  rw [if_neg hn, if_neg hf, hk]

/-- R73, R74: a payload write whose insertion can be made. -/
theorem takeWrite_fits (hp : u.hasPayload = true) (ho : (divisionOf (getCtx s c) u).overlap = [] ∨ u.d.overlap ≠ .reject)
    (hi : insertionFits s.pool (getCtx s c) u (divisionOf (getCtx s c) u)) :
    takeWrite s l r u c =
      let y := takeTrailerPiece (applyPolicy (piecesTaken s c u r.data (divisionOf (getCtx s c) u)) l r u c
        (divisionOf (getCtx s c) u).overlap) c u r.data
      if (divisionOf (getCtx s c) u).fresh = [] then y else verdictOccasion y c := by
  have hn : ¬ (u.d.overlap = .reject ∧ (divisionOf (getCtx s c) u).overlap ≠ []) := fun h => ho.elim h.2 fun h' => h' h.1
  rw [takeWrite_payload hp]
  simp only [takePayload, divide_reloadIdle]
  rw [if_neg hn]
  split
  next hf => rw [piecesTaken_stray r.data hf]
  next hf =>
    rw [insertionFailure_fits hf hi]
    dsimp only
    rw [piecesTaken_inserted r.data hf]

/-! ### The write's policy (R98 to R102) -/

/-- A tracked write has been forwarded, its context, the pool and the counters become these. -/
def written (s : State) (l : LaneId) (r : Request) (c : CtxId) (n : Word32) (p : Pool) (y : Context) (k : Counters) : State :=
  { s with
    lanes := headGone s l
    port := portWith s (forwardedReq r (some (c, n)))
    pool := p
    ctxs := s.ctxs.set c.val y c.isLt
    counters := k }

theorem trackOf_bound (h : (getCtx s c).binding = some b) : trackOf s c = some (c, b.number) := by
  rw [trackOf, h]
  rfl

theorem getCtx_piecesTaken (s : State) (c : CtxId) (u : Touch) (data : List Byte) (v : Division) :
    getCtx (piecesTaken s c u data v) c = payloadTaken (getCtx s c) u data v :=
  (getCtx_of_set (s := s) (t := piecesTaken s c u data v) rfl c).trans (if_pos rfl)

theorem trackOf_piecesTaken (hb : (getCtx s c).binding = some b) (data : List Byte) :
    trackOf (piecesTaken s c u data v) c = some (c, b.number) := by
  refine trackOf_bound ?_
  rw [getCtx_piecesTaken]
  exact hb

theorem applyPolicy_forwards (hb : (getCtx s c).binding = some b) (ho : v.overlap = [] ∨ u.d.overlap = .trust) :
    applyPolicy (piecesTaken s c u r.data v) l r u c v.overlap =
      written s l r c b.number (poolTaken s.pool (getCtx s c) u v) (payloadTaken (getCtx s c) u r.data v)
        { s.counters with
          trustedBytes := if v.overlap = [] then s.counters.trustedBytes
            else min (s.counters.trustedBytes + totalLength v.overlap) 4294967295 } := by
  rw [applyPolicy, trackOf_piecesTaken hb]
  by_cases hn : v.overlap = []
  · rw [if_pos hn, hn]
    rfl
  · rw [if_neg hn, if_neg (by simpa using hn), ho.resolve_left hn]
    rfl

/-- R102: the state in which a write's reconcile begins. -/
def reconciling (s : State) (l : LaneId) (r : Request) (u : Touch) (c : CtxId) (v : Division) (y : Context) : State :=
  { s with
    lanes := headHeld s l r .reconcile
    slots := s.slots.set l.val
      (.attached c { write := r, offset := u.lo, pieces := v.overlap, span := spanOf v.overlap, standing := .waiting }) l.isLt
    pool := poolTaken s.pool (getCtx s c) u v
    port := { s.port with q2 := s.port.q2 ++
      [{ kind := .read, addr := BitVec.ofNat 40 (u.d.bayBase u.bay + (spanOf v.overlap).start),
         count := (spanOf v.overlap).stop - (spanOf v.overlap).start, data := [], owner := .reconcile l }] }
    counters := { s.counters with reconBegun := min (s.counters.reconBegun + 1) 4294967295 }
    ctxs := s.ctxs.set c.val y c.isLt }

theorem applyPolicy_reconciles (ho : v.overlap ≠ []) (hr : u.d.overlap = .reconcile) :
    applyPolicy (piecesTaken s c u r.data v) l r u c v.overlap =
      reconciling s l r u c v { payloadTaken (getCtx s c) u r.data v with reconCount := (getCtx s c).reconCount + 1 } := by
  rw [applyPolicy, if_neg (by simpa using ho), hr]
  have hctx : getCtx (setSlot (piecesTaken s c u r.data v) l
      (.attached c { write := r, offset := u.lo, pieces := v.overlap, span := spanOf v.overlap, standing := .waiting })) c =
      payloadTaken (getCtx s c) u r.data v := getCtx_piecesTaken s c u r.data v
  simp only [beginReconcile, modCtx, hctx]
  simp [reconciling, piecesTaken, setCtx, setSlot, holdHead, setLane, headHeld, enqueue2, modPort, modCounters, raise,
    Config.counterMax, getLane, payloadTaken]

/-! ### The trailer (R83 to R87) -/

/-- A context after a trailer write's bytes are kept (R84). -/
def trailerKept (y : Context) (u : Touch) (data : List Byte) : Context := { y with shadow := mergeTrailer y.shadow u data }

/-- The trailer that a context's kept bytes decode to (R85). -/
def keptTrailer (y : Context) (u : Touch) : Trailer := decodeTrailer u.d.order (shadowBytes y.shadow)

/-- The state after a trailer write's bytes are kept. -/
def shadowKept (s : State) (c : CtxId) (u : Touch) (data : List Byte) : State :=
  modCtx s c fun y => { y with shadow := mergeTrailer y.shadow u data }

theorem getCtx_shadowKept (s : State) (c : CtxId) (u : Touch) (data : List Byte) :
    getCtx (shadowKept s c u data) c = trailerKept (getCtx s c) u data := getCtx_setCtx_self s c _

theorem trailerKept_taken (y : Context) (u : Touch) (data : List Byte) : (trailerKept y u data).taken = y.taken := by
  simp only [trailerKept]

section Trailer

variable {data : List Byte}

theorem takeTrailer_partial (hn : (getCtx s c).taken = none)
    (hm : maskFull (trailerKept (getCtx s c) u data).shadow = false) : takeTrailer s c u data = shadowKept s c u data := by
  have hctx := getCtx_shadowKept s c u data
  unfold shadowKept at hctx
  simp only [takeTrailer, hctx, trailerKept_taken, hn, hm]
  rfl

theorem takeTrailer_full (hn : (getCtx s c).taken = none)
    (hm : maskFull (trailerKept (getCtx s c) u data).shadow = true) :
    takeTrailer s c u data =
      (trailerRefusal u.d (trailerKept (getCtx s c) u data) (keptTrailer (trailerKept (getCtx s c) u data) u)).elim
        (verdictOccasion (modCtx (shadowKept s c u data) c fun y =>
          takenContext y (keptTrailer (trailerKept (getCtx s c) u data) u)) c)
        fun k => enterFinal (shadowKept s c u data) c { state := .refused, cause := k } := by
  have hctx := getCtx_shadowKept s c u data
  unfold shadowKept at hctx
  simp only [takeTrailer, hctx, trailerKept_taken, hn, hm, if_true]
  rw [show decodeTrailer u.d.order (shadowBytes (trailerKept (getCtx s c) u data).shadow) =
    keptTrailer (trailerKept (getCtx s c) u data) u by rw [keptTrailer]]
  cases trailerRefusal u.d (trailerKept (getCtx s c) u data) (keptTrailer (trailerKept (getCtx s c) u data) u) with
  | none => rw [shadowKept]; simp only [Option.elim_none]
  | some k => rw [shadowKept]; simp only [Option.elim_some]

theorem takeTrailer_again {old : Trailer} (hn : (getCtx s c).taken = some old) :
    takeTrailer s c u data = if keptTrailer (trailerKept (getCtx s c) u data) u = old then shadowKept s c u data
      else enterFinal (shadowKept s c u data) c { state := .lost, cause := .trailerConflict } := by
  have hctx := getCtx_shadowKept s c u data
  unfold shadowKept at hctx
  simp only [takeTrailer, hctx, trailerKept_taken, hn]
  rfl

end Trailer

theorem takeTrailerPiece_none (data : List Byte) (h : u.hasTrailer = false) : takeTrailerPiece s c u data = s := by
  simp [takeTrailerPiece, h]

theorem takeTrailerPiece_some (data : List Byte) (h : u.hasTrailer = true) (hc : (getCtx s c).state = .collecting) :
    takeTrailerPiece s c u data = takeTrailer s c u data := by
  simp [takeTrailerPiece, h, hc]

/-! ### A second occasion of a verdict -/

theorem getCtx_enterFinal_state (s : State) (c : CtxId) (f : FinalRec) : (getCtx (enterFinal s c f) c).state = f.state := by
  have hctx : (getCtx (released s c f) c).state = f.state := by
    rw [getCtx_released]
    rfl
  have hverdict (y : Context) (i : Bool) : (verdictContext y f.state i).state = y.state := by
    unfold verdictContext
    split
    · rfl
    · split <;> rfl
  rw [enterFinal_eq]
  simp only [announceFinal]
  rw [getCtx_modCtx_self, hverdict, handTransferEnd_state]
  split
  · rw [getCtx_congr (s := released s c f) (by simp [released])]
    exact hctx
  · exact hctx

theorem verdictOccasion_ended {f : FinalRec} (hf : f.state ≠ .collecting) :
    verdictOccasion (enterFinal s c f) c = enterFinal s c f := by
  refine verdictOccasion_waits ?_
  simp [verdictDue, getCtx_enterFinal_state, hf]

theorem verdictOf_ne_collecting (y : Context) : (verdictOf y).state ≠ .collecting := by
  unfold verdictOf
  split <;> simp

theorem verdictOccasion_twice (s : State) (c : CtxId) : verdictOccasion (verdictOccasion s c) c = verdictOccasion s c := by
  cases h : verdictDue (getCtx s c) with
  | false => rw [verdictOccasion_waits h, verdictOccasion_waits h]
  | true => rw [verdictOccasion_due h, verdictOccasion_ended (verdictOf_ne_collecting _)]

end Sys2Proof.Machine
end

section
/-! Writes into the bay of a COLLECTING transfer: the statements. -/

set_option Elab.async false

namespace Sys2Proof.Machine

variable {s t x : State} {r : Request} {l : LaneId} {c : CtxId} {b : Binding} {u : Touch} {v : Division}

theorem treatClass_collecting (hw : OneBay s r u) (hk : r.kind = .write) (hl : lookup s u.win u.bay = some c)
    (hi : (getCtx s c).isolated = false) (hsig : u.significant = true) (hc : (getCtx s c).state = .collecting) :
    treatClass s l r = takeWrite s l r u c := by
  rw [treatClass_write hw hk, writeBay_bound hl hi hsig, writeBound, hc]

theorem quiet_written {y : Context} (n : Word32) (p : Pool) (k : Counters) (hy : y.owed = (getCtx s c).owed) :
    Quiet s (written s l r c n p y k) := ⟨rfl, ⟨fun _ => rfl, owed_of_set rfl hy, rfl⟩, rfl⟩

theorem getCtx_written (s : State) (l : LaneId) (r : Request) (c : CtxId) (n : Word32) (p : Pool) (y : Context) (k : Counters) :
    getCtx (written s l r c n p y k) c = y :=
  (getCtx_of_set (s := s) (t := written s l r c n p y k) rfl c).trans (if_pos rfl)

/-- A transfer that the close of a head event of a written state ends. -/
theorem written_ends {y : Context} {n : Word32} {p : Pool} {k : Counters} {f : FinalRec} (hs : RestInv s)
    (hd : HeadDue s l r) (hb : y.binding = some b) (hy : y.owed = (getCtx s c).owed) (hn : nothingOwed s = true)
    (hlen : s.report.list.length + 4 ≤ 32) (ht : treatClass s l r = enterFinal (written s l r c n p y k) c f) :
    ∃ t : State, exec (.headEvent l) s = .next t ∧ TransferEnded (written s l r c n p y k) t c b f := by
  refine ⟨_, execHeadEvent_due hd, ?_⟩
  rw [ht]
  exact transferEnded (by rw [getCtx_written]; exact hb) ((quiet_written n p k hy).nothingOwed.trans hn) hlen hs.1
    (able_of_room hd.1 hn hlen (by simp))

/-- R98, R100: the state of a write that is forwarded after its new pieces are taken. -/
def forwardedWrite (s : State) (l : LaneId) (r : Request) (u : Touch) (c : CtxId) (b : Binding) : State :=
  written s l r c b.number (poolTaken s.pool (getCtx s c) u (divisionOf (getCtx s c) u))
    (payloadTaken (getCtx s c) u r.data (divisionOf (getCtx s c) u))
    { s.counters with
      trustedBytes := if (divisionOf (getCtx s c) u).overlap = [] then s.counters.trustedBytes
        else min (s.counters.trustedBytes + totalLength (divisionOf (getCtx s c) u).overlap) 4294967295 }

theorem takeWrite_forwarded (hp : u.hasPayload = true) (hb : (getCtx s c).binding = some b)
    (ho : (divisionOf (getCtx s c) u).overlap = [] ∨ u.d.overlap = .trust)
    (hi : insertionFits s.pool (getCtx s c) u (divisionOf (getCtx s c) u)) :
    takeWrite s l r u c =
      if (divisionOf (getCtx s c) u).fresh = [] then takeTrailerPiece (forwardedWrite s l r u c b) c u r.data
      else verdictOccasion (takeTrailerPiece (forwardedWrite s l r u c b) c u r.data) c := by
  rw [takeWrite_fits hp (ho.imp id fun h => by rw [h]; simp) hi, applyPolicy_forwards hb ho]
  rfl

theorem getCtx_forwardedWrite (s : State) (l : LaneId) (r : Request) (u : Touch) (c : CtxId) (b : Binding) :
    getCtx (forwardedWrite s l r u c b) c = payloadTaken (getCtx s c) u r.data (divisionOf (getCtx s c) u) :=
  getCtx_written s l r c b.number _ _ _

/-- R90: payload bytes that end no transfer: no new piece, no trailer taken, open coverage, or a reconcile in flight. -/
theorem verdictDue_payloadTaken_false {data : List Byte}
    (h : (getCtx s c).taken = none ∨ complete (payloadTaken (getCtx s c) u data v).extents (getCtx s c).len = false ∨
      (getCtx s c).reconCount ≠ 0) : verdictDue (payloadTaken (getCtx s c) u data v) = false := by
  rcases h with h | h | h
  · simp [verdictDue, payloadTaken, h]
  · rw [verdictDue, show (payloadTaken (getCtx s c) u data v).len = (getCtx s c).len from rfl, h]
    simp
  · simp [verdictDue, payloadTaken, h]

theorem verdictDue_payloadTaken {data : List Byte} (hc : (getCtx s c).state = .collecting)
    (ht : (getCtx s c).taken.isSome = true)
    (hx : complete (payloadTaken (getCtx s c) u data v).extents (getCtx s c).len = true)
    (h0 : (getCtx s c).reconCount = 0) : verdictDue (payloadTaken (getCtx s c) u data v) = true := by
  rw [verdictDue, show (payloadTaken (getCtx s c) u data v).len = (getCtx s c).len from rfl, hx]
  simp [payloadTaken, hc, ht, h0]

/-- R99: the state after a write is refused under REJECT. -/
def rejectedState (s : State) (l : LaneId) (r : Request) (u : Touch) (c : CtxId) : State :=
  { s with
    lanes := headGone s l
    upOut := s.upOut ++ [errorTo r]
    counters := { s.counters with partAnswers := min (s.counters.partAnswers + 1) 4294967295 }
    windows := s.windows.set u.win.val
      { getWin s u.win with
        counters := { (getWin s u.win).counters with
          rejected := min ((getWin s u.win).counters.rejected + 1) 4294967295 } } u.win.isLt
    ctxs := s.ctxs.set c.val
      { getCtx s c with
        idle := some u.d.idleLimit, rejWrites := min ((getCtx s c).rejWrites + 1) 4294967295 } c.isLt }

theorem refuseWrite_eq (s : State) (l : LaneId) (r : Request) (u : Touch) (c : CtxId) :
    refuseWrite (reloadIdle s c u.d) l r u c = rejectedState s l r u c := by
  have hctx : (modCtx (reloadIdle s c u.d) c fun y => { y with rejWrites := raise y.rejWrites 1 }) =
      setCtx s c { getCtx s c with
        idle := some u.d.idleLimit, rejWrites := min ((getCtx s c).rejWrites + 1) 4294967295 } := by
    rw [modCtx, getCtx_reloadIdle, reloadIdle_eq]
    simp [setCtx, raise, Config.counterMax]
  rw [refuseWrite, hctx]
  rfl

/-! ### A reconcile's beginning (R102) -/

theorem getCtx_reconciling (s : State) (l : LaneId) (r : Request) (u : Touch) (c : CtxId) (v : Division) (y : Context) :
    getCtx (reconciling s l r u c v y) c = y :=
  (getCtx_of_set (s := s) (t := reconciling s l r u c v y) rfl c).trans (if_pos rfl)

theorem quiet_reconciling {y : Context} (hy : y.owed = (getCtx s c).owed) : Quiet s (reconciling s l r u c v y) :=
  ⟨rfl, ⟨fun _ => rfl, owed_of_set rfl hy, rfl⟩, rfl⟩

theorem shadowKept_reconciling (s : State) (l : LaneId) (r : Request) (u : Touch) (c : CtxId) (v : Division) (y : Context)
    (data : List Byte) :
    shadowKept (reconciling s l r u c v y) c u data = reconciling s l r u c v (trailerKept y u data) := by
  rw [shadowKept, modCtx, getCtx_reconciling]
  simp only [reconciling, setCtx, Vector.set_set, trailerKept]

/-- R74: a context after a row-5 write's reconcile has begun. -/
def reconcilingContext (y : Context) (u : Touch) (data : List Byte) (v : Division) : Context :=
  { payloadTaken y u data v with reconCount := y.reconCount + 1 }

/-- R73, R74, R102: under RECONCILE a write with overlapped pieces is held, its trailer bytes kept. -/
theorem takeWrite_reconciles (hp : u.hasPayload = true) (hc : (getCtx s c).state = .collecting)
    (hr : u.d.overlap = .reconcile) (ho : (divisionOf (getCtx s c) u).overlap ≠ [])
    (hi : insertionFits s.pool (getCtx s c) u (divisionOf (getCtx s c) u))
    (hm : u.hasTrailer = true → (getCtx s c).taken = none ∧ maskFull (mergeTrailer (getCtx s c).shadow u r.data) = false) :
    takeWrite s l r u c = reconciling s l r u c (divisionOf (getCtx s c) u)
      { reconcilingContext (getCtx s c) u r.data (divisionOf (getCtx s c) u) with
        shadow := if u.hasTrailer then mergeTrailer (getCtx s c).shadow u r.data else (getCtx s c).shadow } := by
  have hpiece : takeTrailerPiece (reconciling s l r u c (divisionOf (getCtx s c) u)
      (reconcilingContext (getCtx s c) u r.data (divisionOf (getCtx s c) u))) c u r.data =
      reconciling s l r u c (divisionOf (getCtx s c) u)
        { reconcilingContext (getCtx s c) u r.data (divisionOf (getCtx s c) u) with
          shadow := if u.hasTrailer then mergeTrailer (getCtx s c).shadow u r.data else (getCtx s c).shadow } := by
    cases ht : u.hasTrailer with
    | false => exact takeTrailerPiece_none _ ht
    | true =>
      obtain ⟨hnone, hmask⟩ := hm ht
      have hctx := getCtx_reconciling s l r u c (divisionOf (getCtx s c) u)
        (reconcilingContext (getCtx s c) u r.data (divisionOf (getCtx s c) u))
      rw [takeTrailerPiece_some _ ht (by rw [hctx]; exact hc), takeTrailer_partial, shadowKept_reconciling]
      · simp only [trailerKept, if_true]
        simp only [reconcilingContext, payloadTaken]
      · rw [hctx]
        exact hnone
      · rw [hctx]
        simp only [trailerKept, reconcilingContext, payloadTaken]
        exact hmask
  rw [takeWrite_fits hp (.inr (by rw [hr]; simp)) hi, applyPolicy_reconciles ho hr]
  rw [show ({ payloadTaken (getCtx s c) u r.data (divisionOf (getCtx s c) u) with
    reconCount := (getCtx s c).reconCount + 1 } : Context) =
      reconcilingContext (getCtx s c) u r.data (divisionOf (getCtx s c) u) from rfl]
  simp only [hpiece]
  split
  · rfl
  · refine verdictOccasion_waits ?_
    rw [getCtx_reconciling]
    simp [verdictDue, reconcilingContext]

end Sys2Proof.Machine

open Sys2Proof Sys2Proof.Machine

/-- Settles O12. -/
theorem payloadWriteIsTaken : Obligations.PayloadWriteIsTaken := by
  intro l r u c b s hs hd hk hcl hl hc hi hb cx v taken sent room
  have hpay : u.hasPayload = true := hasPayload_of_class hcl
  have hone : OneBay s r u := hcl.elim .inl fun h => .inr (.inr h)
  have htreat := treatClass_collecting (l := l) hone hk hl hi (significant_of_payload hpay) hc
  refine ⟨fun hp ho hfit => ?_, fun ho hf hm hroom hfail => ?_, fun ho hr => ?_⟩
  · have htaken := htreat.trans (takeWrite_forwarded (l := l) (r := r) hpay hb ho hfit)
    rw [takeTrailerPiece_none _ (payload_areas hp).2] at htaken
    refine ⟨fun hopen => execHeadEvent_quiet hs hd (htaken.trans ?_) (quiet_written _ _ _ rfl),
      fun hf hsome hcomplete h0 hroom => written_ends hs hd hb rfl hroom.1 hroom.2 (htaken.trans ?_)⟩
    · split
      · rfl
      next hf =>
        refine verdictOccasion_waits ?_
        rw [getCtx_forwardedWrite]
        exact verdictDue_payloadTaken_false (hopen.resolve_left hf)
    · rw [if_neg (show ¬ (divisionOf (getCtx s c) u).fresh = [] from hf), verdictOccasion_due, getCtx_forwardedWrite]
      · rfl
      · rw [getCtx_forwardedWrite]
        exact verdictDue_payloadTaken hc hsome hcomplete h0
  · have htaken := htreat.trans (takeWrite_fails hpay ho hf (insertionFailure_fails hm hfail))
    have htrack : trackOf (reloadIdle s c u.d) c = some (c, b.number) :=
      trackOf_bound (by rw [getCtx_reloadIdle]; exact hb)
    rw [htrack] at htaken
    exact written_ends (p := s.pool) (k := s.counters) (y := { getCtx s c with idle := some u.d.idleLimit }) hs hd hb rfl
      hroom.1 hroom.2 htaken
  · exact execHeadEvent_quiet hs hd (htreat.trans ((takeWrite_rejected (l := l) (r := r) hpay ho hr).trans
      (refuseWrite_eq s l r u c))) ⟨rfl, ⟨owes_of_set rfl rfl, owed_of_set rfl rfl, rfl⟩, rfl⟩

/-- Settles O13. -/
theorem overlapBeginsReconcile : Obligations.OverlapBeginsReconcile := by
  intro l r u c s hs hd hk hl hcl hc hi hr cx v ho hfit
  have hclass : classify s r = .payload u ∨ classify s r = .both u := hcl.imp id And.left
  have hpay : u.hasPayload = true := hasPayload_of_class hclass
  have hone : OneBay s r u := hclass.elim .inl fun h => .inr (.inr h)
  have hmask : u.hasTrailer = true →
      (getCtx s c).taken = none ∧ maskFull (mergeTrailer (getCtx s c).shadow u r.data) = false := fun ht =>
    hcl.elim (fun h => absurd (ht.symm.trans (payload_areas h).2) (by simp)) And.right
  have htreat := treatClass_collecting (l := l) hone hk hl hi (significant_of_payload hpay) hc
  exact execHeadEvent_quiet hs hd (htreat.trans (takeWrite_reconciles hpay hc hr ho hfit hmask)) (quiet_reconciling rfl)
end

section
/-! Trailer writes into the bay of a COLLECTING transfer (R83 to R87, R89, R90). -/

set_option Elab.async false

namespace Sys2Proof.Machine

variable {s t x : State} {r : Request} {l : LaneId} {c : CtxId} {b : Binding} {u : Touch}

/-! ### The trailer piece, and the verdict that may follow -/

/-- R74, R90: the trailer piece is taken, and where the write brought new payload bytes an occasion of the verdict
follows. -/
def pieceTaken (x : State) (c : CtxId) (u : Touch) (data : List Byte) (again : Bool) : State :=
  if again then verdictOccasion (takeTrailer x c u data) c else takeTrailer x c u data

/-- A piece after which no verdict is due. -/
theorem pieceTaken_of {z : State} {data : List Byte} {again : Bool} (h : takeTrailer x c u data = z)
    (hz : verdictOccasion z c = z) : pieceTaken x c u data again = z := by
  rw [pieceTaken, h, hz, ite_self]

section Piece

variable {n : Word32} {p : Pool} {y : Context} {k : Counters} {again : Bool}

theorem shadowKept_written (s : State) (l : LaneId) (r : Request) (c : CtxId) (n : Word32) (p : Pool) (y : Context)
    (k : Counters) (u : Touch) (data : List Byte) :
    shadowKept (written s l r c n p y k) c u data = written s l r c n p (trailerKept y u data) k := by
  rw [shadowKept, modCtx, getCtx_written]
  simp only [written, setCtx, Vector.set_set, trailerKept]

theorem modCtx_written (s : State) (l : LaneId) (r : Request) (c : CtxId) (n : Word32) (p : Pool) (y : Context)
    (k : Counters) (f : Context → Context) :
    modCtx (written s l r c n p y k) c f = written s l r c n p (f y) k := by
  rw [modCtx, getCtx_written]
  simp only [written, setCtx, Vector.set_set]

theorem pieceTaken_partial {data : List Byte} (hn : y.taken = none) (hm : maskFull (trailerKept y u data).shadow = false) :
    pieceTaken (written s l r c n p y k) c u data again = written s l r c n p (trailerKept y u data) k := by
  have hctx := getCtx_written s l r c n p y k
  have hkept : takeTrailer (written s l r c n p y k) c u data = written s l r c n p (trailerKept y u data) k := by
    rw [takeTrailer_partial (by rw [hctx]; exact hn) (by rw [hctx]; exact hm), shadowKept_written]
  refine pieceTaken_of hkept (verdictOccasion_waits ?_)
  rw [getCtx_written]
  simp [verdictDue, trailerKept_taken, hn]

theorem pieceTaken_refused {data : List Byte} {q : Cause} (hn : y.taken = none)
    (hm : maskFull (trailerKept y u data).shadow = true)
    (hq : trailerRefusal u.d (trailerKept y u data) (keptTrailer (trailerKept y u data) u) = some q) :
    pieceTaken (written s l r c n p y k) c u data again =
      enterFinal (written s l r c n p (trailerKept y u data) k) c { state := .refused, cause := q } := by
  have hctx := getCtx_written s l r c n p y k
  have hkept : takeTrailer (written s l r c n p y k) c u data =
      enterFinal (written s l r c n p (trailerKept y u data) k) c { state := .refused, cause := q } := by
    rw [takeTrailer_full (by rw [hctx]; exact hn) (by rw [hctx]; exact hm), hctx, hq, shadowKept_written, Option.elim_some]
  exact pieceTaken_of hkept (verdictOccasion_ended (by simp))

theorem pieceTaken_passes {data : List Byte} (hn : y.taken = none) (hm : maskFull (trailerKept y u data).shadow = true)
    (hq : trailerRefusal u.d (trailerKept y u data) (keptTrailer (trailerKept y u data) u) = none) :
    pieceTaken (written s l r c n p y k) c u data again =
      verdictOccasion (written s l r c n p
        (takenContext (trailerKept y u data) (keptTrailer (trailerKept y u data) u)) k) c := by
  have hctx := getCtx_written s l r c n p y k
  have hkept : takeTrailer (written s l r c n p y k) c u data = verdictOccasion (written s l r c n p
      (takenContext (trailerKept y u data) (keptTrailer (trailerKept y u data) u)) k) c := by
    rw [takeTrailer_full (by rw [hctx]; exact hn) (by rw [hctx]; exact hm), hctx, hq, shadowKept_written, Option.elim_none,
      modCtx_written]
  exact pieceTaken_of hkept (verdictOccasion_twice _ _)

theorem pieceTaken_conflict {data : List Byte} {old : Trailer} (hn : y.taken = some old)
    (ho : keptTrailer (trailerKept y u data) u ≠ old) :
    pieceTaken (written s l r c n p y k) c u data again =
      enterFinal (written s l r c n p (trailerKept y u data) k) c { state := .lost, cause := .trailerConflict } := by
  have hctx := getCtx_written s l r c n p y k
  have hkept : takeTrailer (written s l r c n p y k) c u data =
      enterFinal (written s l r c n p (trailerKept y u data) k) c { state := .lost, cause := .trailerConflict } := by
    rw [takeTrailer_again (by rw [hctx]; exact hn), hctx, if_neg ho, shadowKept_written]
  exact pieceTaken_of hkept (verdictOccasion_ended (by simp))

theorem pieceTaken_same {data : List Byte} {old : Trailer} (hn : y.taken = some old)
    (ho : keptTrailer (trailerKept y u data) u = old) :
    pieceTaken (written s l r c n p y k) c u data again =
      if again then verdictOccasion (written s l r c n p (trailerKept y u data) k) c
      else written s l r c n p (trailerKept y u data) k := by
  have hctx := getCtx_written s l r c n p y k
  have hkept : takeTrailer (written s l r c n p y k) c u data = written s l r c n p (trailerKept y u data) k := by
    rw [takeTrailer_again (by rw [hctx]; exact hn), hctx, if_pos ho, shadowKept_written]
  rw [pieceTaken, hkept]

end Piece

/-! ### The write's payload bytes before its trailer piece -/

/-- A context after the payload bytes of a trailer write, if any, are accounted. -/
def payloadFirst (y : Context) (u : Touch) (data : List Byte) : Context :=
  if u.hasPayload then payloadTaken y u data (divisionOf y u) else { y with idle := some u.d.idleLimit }

/-- R73, R74: a trailer write of a COLLECTING transfer, whose payload bytes are all new or stray. -/
theorem treatClass_trailer (hcl : classify s r = .trailer u ∨ classify s r = .both u) (hk : r.kind = .write)
    (hsig : u.significant = true) (hl : lookup s u.win u.bay = some c) (hc : (getCtx s c).state = .collecting)
    (hi : (getCtx s c).isolated = false) (hb : (getCtx s c).binding = some b)
    (hp : u.hasPayload = true → (divisionOf (getCtx s c) u).overlap = [] ∧
      insertionFits s.pool (getCtx s c) u (divisionOf (getCtx s c) u)) :
    treatClass s l r = pieceTaken (written s l r c b.number
      (if u.hasPayload then poolTaken s.pool (getCtx s c) u (divisionOf (getCtx s c) u) else s.pool)
      (payloadFirst (getCtx s c) u r.data) s.counters) c u r.data
      (u.hasPayload && decide ((divisionOf (getCtx s c) u).fresh ≠ [])) := by
  have hone : OneBay s r u := hcl.elim (fun h => .inr (.inl h)) fun h => .inr (.inr h)
  rw [treatClass_collecting (l := l) hone hk hl hi hsig hc]
  cases hpay : u.hasPayload with
  | false =>
    have htrack : trackOf (reloadIdle s c u.d) c = some (c, b.number) :=
      trackOf_bound (by rw [getCtx_reloadIdle]; exact hb)
    simp only [takeWrite, hpay, htrack, payloadFirst]
    rfl
  | true =>
    obtain ⟨ho, hfit⟩ := hp hpay
    have htrailer : u.hasTrailer = true := hcl.elim
      (fun h => absurd (hpay.symm.trans (trailer_areas h).1) (by simp)) fun h => (both_areas h).2
    have hbase : forwardedWrite s l r u c b = written s l r c b.number
        (poolTaken s.pool (getCtx s c) u (divisionOf (getCtx s c) u))
        (payloadFirst (getCtx s c) u r.data) s.counters := by
      simp only [forwardedWrite, ho, payloadFirst, hpay, if_true]
    have hpiece : takeTrailerPiece (forwardedWrite s l r u c b) c u r.data = takeTrailer (forwardedWrite s l r u c b) c u r.data :=
      takeTrailerPiece_some _ htrailer (by rw [getCtx_forwardedWrite]; exact hc)
    rw [takeWrite_forwarded hpay hb (.inl ho) hfit, hpiece, hbase, pieceTaken]
    by_cases hf : (divisionOf (getCtx s c) u).fresh = [] <;> simp [hf]

theorem payloadFirst_frame (y : Context) (u : Touch) (data : List Byte) :
    (payloadFirst y u data).shadow = y.shadow ∧ (payloadFirst y u data).taken = y.taken ∧
      (payloadFirst y u data).state = y.state ∧ (payloadFirst y u data).binding = y.binding ∧
      (payloadFirst y u data).owed = y.owed := by
  unfold payloadFirst
  split <;> exact ⟨rfl, rfl, rfl, rfl, rfl⟩

end Sys2Proof.Machine

open Sys2Proof Sys2Proof.Machine

/-- Settles O15. -/
theorem trailerDecides : Obligations.TrailerDecides := by
  intro l r u c b s hs hd hk hcl hsig hl hc hi hb old v hp cx tr taken after room ends verdict
  have htreat := treatClass_trailer (l := l) hcl hk hsig hl hc hi hb hp
  obtain ⟨hshadow, htaken, hstate, hbind, howed⟩ := payloadFirst_frame (getCtx s c) u r.data
  have hcx : trailerKept (payloadFirst (getCtx s c) u r.data) u r.data = cx := by
    rw [trailerKept, hshadow]
    rfl
  have hcollecting : cx.state = .collecting := by
    rw [← hcx]
    simp only [trailerKept]
    exact hstate.trans hc
  have hbound : cx.binding = some b := by
    rw [← hcx]
    simp only [trailerKept]
    exact hbind.trans hb
  have hown : cx.owed = (getCtx s c).owed := by
    rw [← hcx]
    simp only [trailerKept]
    exact howed
  have hcxtaken : cx.taken = old.taken := by
    rw [← hcx, trailerKept_taken, htaken]
  have htr : keptTrailer cx u = tr := by rw [keptTrailer]
  have hafter (y : Context) : written s l r c b.number
      (if u.hasPayload then poolTaken s.pool old u v else s.pool) y s.counters = after y := rfl
  clear_value cx tr after
  refine ⟨fun hn hm => ?_, fun hn hm => ⟨fun q hq hroom => ?_, fun hq => ⟨fun hopen => ?_, fun hcomplete h0 hroom => ?_⟩⟩,
    fun kept hkept => ⟨fun hne hroom => ?_, fun heq hopen => ?_, fun heq hpay hfresh hcomplete h0 hroom => ?_⟩⟩
  · rw [← hcx] at hm
    rw [pieceTaken_partial (htaken.trans hn) hm, hcx] at htreat
    exact (execHeadEvent_quiet hs hd htreat (quiet_written _ _ _ hown)).trans (congrArg _ (hafter cx))
  · rw [← hcx] at hm
    rw [pieceTaken_refused (q := q) (htaken.trans hn) hm (by rw [hcx, htr]; exact hq), hcx] at htreat
    obtain ⟨z, hz, hend⟩ := written_ends hs hd hbound hown hroom.1 hroom.2 htreat
    exact ⟨z, hz, by rw [← hafter]; exact hend⟩
  · rw [← hcx] at hm
    rw [pieceTaken_passes (htaken.trans hn) hm (by rw [hcx, htr]; exact hq), hcx, htr, verdictOccasion_waits] at htreat
    · exact (execHeadEvent_quiet hs hd htreat (quiet_written _ _ _ hown)).trans (congrArg _ (hafter _))
    · rw [getCtx_written]
      rcases hopen with h | h
      · rw [verdictDue, show (takenContext cx tr).extents = cx.extents from rfl,
          show (takenContext cx tr).len = taken.len from rfl, h]
        simp
      · simp [verdictDue, takenContext, h]
  · rw [← hcx] at hm
    rw [pieceTaken_passes (htaken.trans hn) hm (by rw [hcx, htr]; exact hq), hcx, htr, verdictOccasion_due, getCtx_written]
      at htreat
    · obtain ⟨z, hz, hend⟩ := written_ends (y := takenContext cx tr) hs hd hbound hown hroom.1 hroom.2 htreat
      exact ⟨z, hz, by rw [← hafter]; exact hend⟩
    · rw [getCtx_written, verdictDue, show (takenContext cx tr).extents = cx.extents from rfl,
        show (takenContext cx tr).len = taken.len from rfl, hcomplete]
      simp [takenContext, h0, hcollecting]
  · rw [pieceTaken_conflict (htaken.trans hkept) (by rw [hcx, htr]; exact hne), hcx] at htreat
    obtain ⟨z, hz, hend⟩ := written_ends hs hd hbound hown hroom.1 hroom.2 htreat
    exact ⟨z, hz, by rw [← hafter]; exact hend⟩
  · rw [pieceTaken_same (htaken.trans hkept) (by rw [hcx, htr]; exact heq), hcx] at htreat
    refine (execHeadEvent_quiet hs hd (htreat.trans ?_) (quiet_written _ _ _ hown)).trans (congrArg _ (hafter cx))
    split
    next hagain =>
      simp only [Bool.and_eq_true, decide_eq_true_eq] at hagain
      refine verdictOccasion_waits ?_
      rw [getCtx_written]
      rcases hopen with h | h | h | h
      · exact absurd hagain.1 (by rw [h]; simp)
      · exact absurd h hagain.2
      · simp [verdictDue, h]
      · simp [verdictDue, h]
    next => rfl
  · rw [pieceTaken_same (htaken.trans hkept) (by rw [hcx, htr]; exact heq), hcx, if_pos, verdictOccasion_due,
      getCtx_written] at htreat
    · obtain ⟨z, hz, hend⟩ := written_ends hs hd hbound hown hroom.1 hroom.2 htreat
      exact ⟨z, hz, by rw [← hafter]; exact hend⟩
    · rw [getCtx_written]
      simp [verdictDue, hcxtaken, hkept, hcomplete, h0, hcollecting]
    · simp only [Bool.and_eq_true, decide_eq_true_eq]
      exact ⟨hpay, hfresh⟩
end

section
/-! Second final states, and the writes that make them (R50, R57, R58, R94, R26). -/

set_option Elab.async false

namespace Sys2Proof.Machine

variable {s t x : State} {r : Request} {l : LaneId} {c : CtxId} {b : Binding} {u : Touch} {w : WinId}

/-! ### Entry into a second final state (R50) -/

/-- A context after its second final state. -/
def secondContext (y : Context) (f : FinalRec) : Context := { y with state := f.state, second := some f }

/-- The state after a second final state's records are built. -/
def secondReported (s : State) (c : CtxId) (b : Binding) (f : FinalRec) : State :=
  build (build (setWin (setCtx s c (secondContext (getCtx s c) f)) b.win (endedWindow (getWin s b.win) f.state))
    (fencedRecord (getWin s b.win) b.win f.state)) (endGroup f c b (getCtx s c))

theorem sameOwed_secondContext (s : State) (c : CtxId) (f : FinalRec) :
    SameOwed s (setCtx s c (secondContext (getCtx s c) f)) := ⟨fun _ => rfl, owed_of_set rfl rfl, rfl⟩

theorem leaves_notified (f : FinalRec) (hw : s.orders.waitingDone = none) :
    Leaves s (build (setWin (setCtx s c (secondContext (getCtx s c) f)) b.win (endedWindow (getWin s b.win) f.state))
      (fencedRecord (getWin s b.win) b.win f.state)) (fencedRecord (getWin s b.win) b.win f.state) := by
  have hset : SameOwed (setCtx s c (secondContext (getCtx s c) f)) (setWin (setCtx s c (secondContext (getCtx s c) f)) b.win
      (endedWindow (getWin s b.win) f.state)) := ⟨owes_of_set rfl rfl, fun _ => rfl, rfl⟩
  exact ((Leaves.refl s).same (hset.anyOwed.trans (sameOwed_secondContext s c f).anyOwed) rfl rfl rfl).build hw

theorem leaves_secondReported (f : FinalRec) (hw : s.orders.waitingDone = none) :
    Leaves s (secondReported s c b f) (endRecords s c b f) := (leaves_notified f hw).build hw

theorem enterSecond_reported {f : FinalRec} (hb : (getCtx s c).binding = some b) (hw : s.orders.waitingDone = none)
    (hr : hasRoom s (endRecords s c b f).length = true) : enterSecond s c f = secondReported s c b f := by
  have hctx : getCtx (setCtx s c (secondContext (getCtx s c) f)) c = secondContext (getCtx s c) f := getCtx_setCtx_self s c _
  have hwin : windowOf (setCtx s c (secondContext (getCtx s c) f)) c = some b.win := by
    rw [windowOf, hctx, show (secondContext (getCtx s c) f).binding = some b from hb]
    rfl
  have hroom1 : hasRoom (setCtx s c (secondContext (getCtx s c) f)) 1 = true :=
    (hasRoom_congr (sameOwed_secondContext s c f) rfl 1).trans
      (hasRoom_mono hr (by rw [endRecords, List.length_append, endGroup_length]; omega))
  have htold := notifyWindow_eq (s := setCtx s c (secondContext (getCtx s c) f)) (w := b.win) f.state hroom1
  have hroom3 : hasRoom (notifyWindow (setCtx s c (secondContext (getCtx s c) f)) b.win f.state) 3 = true := by
    rw [htold]
    exact (leaves_notified f hw).room (hasRoom_mono hr (by rw [endRecords, List.length_append, endGroup_length]))
  have htoldctx : getCtx (notifyWindow (setCtx s c (secondContext (getCtx s c) f)) b.win f.state) c =
      secondContext (getCtx s c) f :=
    (getCtx_congr (s := setCtx s c (secondContext (getCtx s c) f)) (by simp) c).trans hctx
  have hsecond : enterSecond s c f =
      handTransferEnd (notifyWindow (setCtx s c (secondContext (getCtx s c) f)) b.win f.state) c f := by
    simp only [enterSecond]
    rw [show (modCtx s c fun cx => { cx with state := f.state, second := some f }) =
      setCtx s c (secondContext (getCtx s c) f) from rfl, hwin]
  rw [hsecond, handTransferEnd_room (by rw [htoldctx]; exact hb) hroom3, htoldctx, htold]
  rfl

/-! ### TAINTED -/

theorem endedWindow_tainted (y : Window) : endedWindow y .tainted = y := by
  simp [endedWindow, fencedBy, strikesAfter, CtxState.strikes]

theorem fencedRecord_tainted (y : Window) (w : WinId) : fencedRecord y w .tainted = [] := by
  simp [fencedRecord, fencedBy, CtxState.strikes]

theorem taint_enters (hv : s.sweeper.visit.all (fun v => decide (v.ctx ≠ c)) = true) (k : Cause) :
    taint s c k = enterSecond s c { state := .tainted, cause := k } :=
  abandonVisit_other (by simpa using hv)

/-- R50, R62: the close of an event in which a transfer has become TAINTED. -/
theorem transferTainted {b0 : State} {k : Cause} (hb : (getCtx s c).binding = some b) (hn : nothingOwed s = true)
    (hl : s.report.list.length + 3 ≤ 32) (ha : s.engine.attn = attnLevel s) (hable : able b0 = true)
    (hv : s.sweeper.visit.all (fun v => decide (v.ctx ≠ c)) = true) :
    TransferTainted s (settle b0 (taint s c k)) c b k := by
  obtain ⟨hown, hw⟩ := nothingOwed_spec hn
  have hrecords : endRecords s c b { state := .tainted, cause := k } =
      endGroup { state := .tainted, cause := k } c b (getCtx s c) := by
    rw [endRecords, fencedRecord_tainted, List.nil_append]
  have hr : hasRoom s (endRecords s c b { state := .tainted, cause := k }).length = true := by
    rw [hrecords]
    exact (hasRoom_iff 3).mpr ⟨hl, hown⟩
  rw [taint_enters hv, enterSecond_reported hb hw hr]
  have hc := (((leaves_secondReported (c := c) (b := b) { state := .tainted, cause := k } hw).close hn hable).of_build).of_build
  rw [hrecords] at hc
  generalize settle b0 (secondReported s c b { state := .tainted, cause := k }) = t at hc ⊢
  obtain ⟨⟨hwins, hctxs, hserial, hpool, hbuilder, hslots, hfence⟩, -, -⟩ := hc.sides
  refine ⟨hctxs, hc.reported, hc.seq, hc.port, hc.ring, hc.lane, hc.clock, ?_, ?_⟩
  · rw [hc.engine_same ha, hc.orders]
    rfl
  · rw [hwins, hserial, hpool, hbuilder, hslots, hfence, endedWindow_tainted]
    simp [setWin, getWin]

/-- R62: a context that has become TAINTED where the pending list has no room owes the report. -/
def taintOwed (s : State) (c : CtxId) (k : Cause) : State :=
  setCtx s c { getCtx s c with
    state := .tainted, second := some { state := .tainted, cause := k }, owed := (getCtx s c).owed + 1 }

theorem taint_owes {k : Cause} (hb : (getCtx s c).binding = some b) (hr : hasRoom s 3 = false)
    (hv : s.sweeper.visit.all (fun v => decide (v.ctx ≠ c)) = true) : taint s c k = taintOwed s c k := by
  have hctx : getCtx (setCtx s c (secondContext (getCtx s c) { state := .tainted, cause := k })) c =
      secondContext (getCtx s c) { state := .tainted, cause := k } := getCtx_setCtx_self s c _
  have hwin : windowOf (setCtx s c (secondContext (getCtx s c) { state := .tainted, cause := k })) c = some b.win := by
    rw [windowOf, hctx, show (secondContext (getCtx s c) _).binding = some b from hb]
    rfl
  have htold : notifyWindow (setCtx s c (secondContext (getCtx s c) { state := .tainted, cause := k })) b.win .tainted =
      setCtx s c (secondContext (getCtx s c) { state := .tainted, cause := k }) := by
    simp [notifyWindow, struckEntry, reachesThreshold, CtxState.strikes, modWin_id (f := fun x : Window => x) rfl]
  have hnoroom : ¬ hasRoom (setCtx s c (secondContext (getCtx s c) { state := .tainted, cause := k })) 3 = true := by
    rw [hasRoom_congr (sameOwed_secondContext s c _) rfl 3, hr]
    simp
  have hsecond : enterSecond s c { state := .tainted, cause := k } =
      handTransferEnd (setCtx s c (secondContext (getCtx s c) { state := .tainted, cause := k })) c
        { state := .tainted, cause := k } := by
    simp only [enterSecond]
    rw [show (modCtx s c fun cx => { cx with state := .tainted, second := some { state := .tainted, cause := k } }) =
      setCtx s c (secondContext (getCtx s c) { state := .tainted, cause := k }) from rfl, hwin]
    dsimp only
    rw [htold]
  rw [taint_enters hv, hsecond, handTransferEnd, if_neg hnoroom, modCtx, hctx]
  simp [taintOwed, setCtx, secondContext]

theorem anyOwed_taintOwed (s : State) (c : CtxId) (k : Cause) : anyOwed (taintOwed s c k) = true := by
  by_contra h
  have hown := ((anyOwed_eq_false_iff _).mp (by simpa using h)).2.1 c
  rw [show getCtx (taintOwed s c k) c = _ from getCtx_setCtx_self s c _] at hown
  exact absurd hown (by simp)

/-- What is owed leaves the Order Unit not able. -/
theorem able_of_owed (h : anyOwed s = true) : able s = false := by simp [able, h]

theorem settle_taintOwed {b0 : State} {k : Cause} (hs : RingRests s) : settle b0 (taintOwed s c k) = taintOwed s c k := by
  have hrest : RingRests (taintOwed s c k) := hs.congr rfl
  exact settle_of_quiet hrest.2 hrest.1 fun ha => absurd ha (by rw [able_of_owed (anyOwed_taintOwed s c k)]; simp)

/-! ### Writes into the bay of an ended transfer (R50, R57, R58, R94) -/

section Ended

variable {y : Context} {n : Option (CtxId × Word32)}

/-- The state after an untracked write is forwarded and its context becomes this one. -/
def sentWith (s : State) (l : LaneId) (r : Request) (c : CtxId) (y : Context) : State :=
  { s with
    lanes := headGone s l
    port := portWith s (forwardedReq r none)
    ctxs := s.ctxs.set c.val y c.isLt }

theorem getCtx_sentWith (s : State) (l : LaneId) (r : Request) (c : CtxId) (y : Context) :
    getCtx (sentWith s l r c y) c = y := (getCtx_of_set (s := s) (t := sentWith s l r c y) rfl c).trans (if_pos rfl)

theorem quiet_sentWith (hy : y.owed = (getCtx s c).owed) : Quiet s (sentWith s l r c y) :=
  ⟨rfl, ⟨fun _ => rfl, owed_of_set rfl hy, rfl⟩, rfl⟩

theorem setCtx_sentWith (s : State) (l : LaneId) (r : Request) (c : CtxId) (y z : Context) :
    setCtx (sentWith s l r c y) c z = sentWith s l r c z := by simp [sentWith, setCtx]

theorem sentWith_same (s : State) (l : LaneId) (r : Request) (c : CtxId) :
    sentWith s l r c (getCtx s c) = forwardHead s l r none := by
  simp [sentWith, getCtx, forwardHead_eq]

/-- A head event that makes a forwarded write's transfer TAINTED, with room for its group. -/
theorem sentWith_taints {k : Cause} (hs : RestInv s) (hd : HeadDue s l r) (hy : y.owed = (getCtx s c).owed)
    (hb : y.binding = some b) (hv : s.sweeper.visit.all (fun v => decide (v.ctx ≠ c)) = true)
    (ht : treatClass s l r = taint (sentWith s l r c y) c k) (hn : nothingOwed s = true)
    (hlen : s.report.list.length + 3 ≤ 32) :
    ∃ t : State, exec (.headEvent l) s = .next t ∧ TransferTainted (sentWith s l r c y) t c b k := by
  refine ⟨_, execHeadEvent_due hd, ?_⟩
  rw [ht]
  exact transferTainted (by rw [getCtx_sentWith]; exact hb) ((quiet_sentWith hy).nothingOwed.trans hn) hlen hs.1
    (able_of_room hd.1 hn hlen (by simp)) hv

/-- A head event that makes a forwarded write's transfer TAINTED, without room for its group. -/
theorem sentWith_owes {k : Cause} (hs : RestInv s) (hd : HeadDue s l r) (hy : y.owed = (getCtx s c).owed)
    (hb : y.binding = some b) (hv : s.sweeper.visit.all (fun v => decide (v.ctx ≠ c)) = true)
    (ht : treatClass s l r = taint (sentWith s l r c y) c k) (hr : hasRoom s 3 = false) :
    exec (.headEvent l) s = .next (sentWith s l r c { y with
      state := .tainted, second := some { state := .tainted, cause := k }, owed := (getCtx s c).owed + 1 }) := by
  have hroom : hasRoom (sentWith s l r c y) 3 = false := (hasRoom_congr (quiet_sentWith hy).owed rfl 3).trans hr
  have howes : taint (sentWith s l r c y) c k = taintOwed (sentWith s l r c y) c k :=
    taint_owes (by rw [getCtx_sentWith]; exact hb) hroom hv
  rw [execHeadEvent_due hd, ht, howes, settle_taintOwed (((restInv_iff s).mp hs).1.congr (quiet_sentWith hy).view), taintOwed,
    getCtx_sentWith, setCtx_sentWith, hy]

end Ended

theorem treatClass_bound (hw : OneBay s r u) (hk : r.kind = .write) (hl : lookup s u.win u.bay = some c)
    (hi : (getCtx s c).isolated = false) (hsig : u.significant = true) : treatClass s l r = writeBound s l r u c := by
  rw [treatClass_write hw hk, writeBay_bound hl hi hsig]

theorem writeBound_verified_payload (hc : (getCtx s c).state = .verified) (hp : u.hasPayload = true) :
    writeBound s l r u c = taint (sentWith s l r c (getCtx s c)) c .payloadWrite := by
  simp only [writeBound, hc, hp, sentWith_same]
  rfl

theorem writeBound_verified_trailer (hc : (getCtx s c).state = .verified) (hp : u.hasPayload = false) :
    writeBound s l r u c =
      if (getCtx s c).taken = some (keptTrailer (trailerKept (getCtx s c) u r.data) u) then
        sentWith s l r c (trailerKept (getCtx s c) u r.data)
      else taint (sentWith s l r c (trailerKept (getCtx s c) u r.data)) c .trailerWrite := by
  have hkept : shadowKept (forwardHead s l r none) c u r.data = sentWith s l r c (trailerKept (getCtx s c) u r.data) := by
    rw [← sentWith_same s l r c, shadowKept, modCtx, getCtx_sentWith, setCtx_sentWith]
    simp only [trailerKept]
  have hctx : getCtx (shadowKept (forwardHead s l r none) c u r.data) c = trailerKept (getCtx s c) u r.data := by
    rw [hkept, getCtx_sentWith]
  have hrewrite : rewriteTrailer (forwardHead s l r none) c u r.data =
      if (getCtx (shadowKept (forwardHead s l r none) c u r.data) c).taken =
          some (keptTrailer (getCtx (shadowKept (forwardHead s l r none) c u r.data) c) u) then
        shadowKept (forwardHead s l r none) c u r.data
      else taint (shadowKept (forwardHead s l r none) c u r.data) c .trailerWrite := by
    rw [rewriteTrailer, keptTrailer, shadowKept]
  simp only [writeBound, hc, hp, hrewrite, hctx, trailerKept_taken]
  rw [hkept]
  rfl

theorem writeBound_final (hf : (getCtx s c).state.isFinal = true) (hn : (getCtx s c).state ≠ .verified) :
    writeBound s l r u c =
      if u.hasPayload then
        sentWith s l r c { getCtx s c with afterEnd := min ((getCtx s c).afterEnd + 1) 4294967295 }
      else forwardHead s l r none := by
  have hcount : writeBound.countAfterEnd s l r u c = if u.hasPayload then
      sentWith s l r c { getCtx s c with afterEnd := min ((getCtx s c).afterEnd + 1) 4294967295 }
      else forwardHead s l r none := rfl
  unfold writeBound
  cases hc : (getCtx s c).state with
  | free | priming | collecting | guard => rw [hc] at hf; cases hf
  | verified => exact absurd hc hn
  | mismatch | refused | expired | lost | aborted | tainted | corrupted => exact hcount

end Sys2Proof.Machine

open Sys2Proof Sys2Proof.Machine

/-- Settles O16. -/
theorem payloadWriteTaints : Obligations.PayloadWriteTaints := by
  intro l r u c b s hs hd hk hone hl hi hb cx kept sent after tainted
  have htreat (hsig : u.significant = true) := treatClass_bound (l := l) hone hk hl hi hsig
  have hkept : trailerKept (getCtx s c) u r.data = kept := by rw [trailerKept]
  have hown : kept.owed = (getCtx s c).owed := by rw [← hkept]; simp only [trailerKept]
  have hbind : kept.binding = some b := by rw [← hkept]; simp only [trailerKept]; exact hb
  clear_value kept
  refine ⟨fun hc hsig hv => ⟨fun hp => ?_, fun hp hne => ?_, fun hp heq => ?_⟩, fun hf hn hsig => ?_, fun hg hsig => ?_,
    fun hsig => ?_⟩
  · have ht := (htreat hsig).trans (writeBound_verified_payload hc hp)
    exact ⟨sentWith_taints hs hd rfl hb hv ht, sentWith_owes hs hd rfl hb hv ht⟩
  · have ht := (htreat hsig).trans ((writeBound_verified_trailer hc hp).trans
      (if_neg (by rw [hkept, keptTrailer]; exact hne)))
    rw [hkept] at ht
    exact ⟨sentWith_taints hs hd hown hbind hv ht, sentWith_owes hs hd hown hbind hv ht⟩
  · have ht := (htreat hsig).trans ((writeBound_verified_trailer hc hp).trans
      (if_pos (by rw [hkept, keptTrailer]; exact heq)))
    rw [hkept] at ht
    exact execHeadEvent_quiet hs hd ht (quiet_sentWith hown)
  · refine execHeadEvent_quiet hs hd ((htreat hsig).trans (writeBound_final hf hn)) ?_
    split
    · exact quiet_sentWith rfl
    · exact Quiet.of_eq rfl rfl rfl rfl rfl
  · refine execHeadEvent_quiet hs hd ((htreat hsig).trans ?_) ⟨rfl, ⟨owes_of_set rfl rfl, fun _ => rfl, rfl⟩, rfl⟩
    rw [writeBound, show (getCtx s c).state = .guard from hg]
    rfl
  · refine execHeadEvent_quiet hs hd ((treatClass_write hone hk).trans
      (writeBay_insignificant (by rw [bayIsolated_of_lookup hl, hi]) hsig)) (Quiet.of_eq rfl rfl rfl rfl rfl)
end

section
/-! STRADDLE writes of one bay (R26). -/

set_option Elab.async false

namespace Sys2Proof.Machine

variable {s t x : State} {r : Request} {l : LaneId} {c : CtxId} {b : Binding} {u : Touch} {w : WinId}

theorem foldl_at_one {α : Type} [DecidableEq α] (g : State → State) (a : α) {xs : List α} (hn : xs.Nodup) (ha : a ∈ xs)
    (s : State) : xs.foldl (fun x i => if a = i then g x else x) s = g s := by
  have hrest : ∀ (ys : List α) (x : State), a ∉ ys → ys.foldl (fun x i => if a = i then g x else x) x = x := by
    intro ys
    induction ys with
    | nil => exact fun _ _ => rfl
    | cons y ys ih =>
      intro x hy
      rw [List.mem_cons, not_or] at hy
      rw [List.foldl_cons, if_neg hy.1, ih x hy.2]
  induction xs generalizing s with
  | nil => cases ha
  | cons y ys ih =>
    obtain ⟨hy, hn⟩ := List.nodup_cons.mp hn
    rw [List.foldl_cons]
    by_cases hay : a = y
    · subst hay
      rw [if_pos rfl, hrest ys _ hy]
    · rw [if_neg hay, ih hn ((List.mem_cons.mp ha).resolve_left hay)]

/-- R26: the one window of a request of one bay is counted. -/
theorem countWindows_single (s : State) (u : Touch) (f : WinCounters → WinCounters) :
    countWindows s [u] f = modWinCounters s u.win f := by
  have hfun : (fun (x : State) w => if [u].any (fun t => decide (t.win = w)) then modWinCounters x w f else x) =
      fun x w => if u.win = w then modWinCounters x u.win f else x := by
    funext x w
    by_cases h : u.win = w <;> simp [h]
  rw [countWindows, hfun]
  exact foldl_at_one (fun x => modWinCounters x u.win f) u.win nodup_allWins (mem_allWins u.win) s

theorem data_length_of_wf (hwf : r.wf = true) (hk : r.kind = .write) : r.data.length = r.count := by
  simp only [Request.wf, Request.countOk, Request.dataOk, hk, Bool.and_eq_true, decide_eq_true_eq] at hwf
  exact hwf.2

/-- R164: a write without a byte in the control page leaves the shadow. -/
theorem copyToShadow_outside (hwf : r.wf = true) (hk : r.kind = .write) (hp : inPage s r.addr.toNat r.count = false) :
    copyToShadow s r = s := by
  have hl := data_length_of_wf hwf hk
  have hnone : pageBytes s r = [] := by
    have hlen := pageBytes_length s hl
    have hmeet : ¬ max r.addr.toNat (pageBase s) < min (r.addr.toNat + r.count) (pageBase s + 16384) :=
      of_decide_eq_false hp
    exact List.eq_nil_of_length_eq_zero (by omega)
  have hcopied : shadowCopied s r = s := by
    simp [shadowCopied, hnone, copyBytes, modOrders]
  rw [copyToShadow_eq, hcopied, hnone]
  rfl

/-- The state after a straddling write is forwarded and counted. -/
def straddleSent (s : State) (l : LaneId) (r : Request) (w : WinId) : State :=
  { s with
    lanes := headGone s l
    port := portWith s (forwardedReq r none)
    windows := s.windows.set w.val
      { getWin s w with counters := { (getWin s w).counters with
        straddleWrites := min ((getWin s w).counters.straddleWrites + 1) 4294967295 } } w.isLt }

theorem quiet_straddleSent (w : WinId) : Quiet s (straddleSent s l r w) :=
  ⟨rfl, ⟨owes_of_set rfl rfl, fun _ => rfl, rfl⟩, rfl⟩

theorem treatClass_straddleWrite (h : classify s r = .straddle [u]) (hk : r.kind = .write) :
    treatClass s l r = straddleWrite s l r [u] := by simp [treatClass, h, hk]

theorem straddleWrite_isolated (hi : bayIsolated s u.win u.bay = true) :
    straddleWrite s l r [u] = modWinCounters (partAnswer s l r) u.win fun k =>
      { k with straddleWrites := raise k.straddleWrites 1 } := by
  simp only [straddleWrite]
  rw [if_pos (by simp [hi]), countStraddleWrite, countWindows_single]

theorem straddleWrite_priming (hi : bayIsolated s u.win u.bay = false) (hsig : u.significant = true)
    (hp : bayState s u.win u.bay = some .priming) : straddleWrite s l r [u] = holdPriming s l r := by
  simp only [straddleWrite]
  rw [if_neg (by simp [hi]), if_pos (by simp [hsig, hp])]

theorem straddleWrite_treats (hwf : r.wf = true) (hk : r.kind = .write) (hpage : inPage s r.addr.toNat r.count = false)
    (hi : bayIsolated s u.win u.bay = false) (hsig : u.significant = true)
    (hp : bayState s u.win u.bay ≠ some .priming) : straddleWrite s l r [u] = straddleTouch (straddleSent s l r u.win) u := by
  have hcopy : copyToShadow (forwardHead s l r none) r = forwardHead s l r none :=
    copyToShadow_outside (s := forwardHead s l r none) hwf hk hpage
  simp only [straddleWrite]
  rw [if_neg (by simp [hi]), if_neg (by simp [hsig, hp]), hcopy, countStraddleWrite, countWindows_single,
    List.filter_cons_of_pos hsig]
  rfl

theorem straddleTouch_unbound (h : lookup s u.win u.bay = none) : straddleTouch s u = s := by
  simp only [straddleTouch, h]

section Bound

variable (h : lookup s u.win u.bay = some c)

include h

theorem straddleTouch_collecting (hc : (getCtx s c).state = .collecting) :
    straddleTouch s u = enterFinal s c { state := .lost, cause := .straddle } := by
  simp only [straddleTouch, h, hc]

theorem straddleTouch_verified (hc : (getCtx s c).state = .verified) : straddleTouch s u = taint s c .straddle := by
  simp only [straddleTouch, h, hc]

theorem straddleTouch_guard (hc : (getCtx s c).state = .guard) :
    straddleTouch s u = modWinCounters s u.win fun k => { k with late := raise k.late 1 } := by
  simp only [straddleTouch, h, hc]

theorem straddleTouch_final (hf : (getCtx s c).state.isFinal = true) (hn : (getCtx s c).state ≠ .verified) :
    straddleTouch s u = modCtx s c fun y => { y with afterEnd := raise y.afterEnd 1 } := by
  simp only [straddleTouch, h]
  cases hc : (getCtx s c).state with
  | free | priming | collecting | guard => rw [hc] at hf; cases hf
  | verified => exact absurd hc hn
  | mismatch | refused | expired | lost | aborted | tainted | corrupted => rfl

end Bound

end Sys2Proof.Machine

open Sys2Proof Sys2Proof.Machine

/-- Settles O18. -/
theorem straddleWriteLoses : Obligations.StraddleWriteLoses := by
  intro l r u s hs hd hwf hk hcl hpage w counted windows sent
  have htreat := treatClass_straddleWrite (l := l) hcl hk
  refine ⟨fun hi => ?_, fun hi hsig => ⟨fun hp => ?_, fun hn => ?_, fun c hl => ⟨fun b hc hb how hlen => ?_,
    fun b hc hb how hlen hv => ?_, fun hf hn => ?_, fun hg => ?_⟩⟩⟩
  · exact execHeadEvent_quiet hs hd (htreat.trans (straddleWrite_isolated hi))
      ⟨rfl, ⟨owes_of_set rfl rfl, fun _ => rfl, rfl⟩, rfl⟩
  · exact execHeadEvent_quiet hs hd (htreat.trans (straddleWrite_priming hi hsig hp)) (Quiet.of_eq rfl rfl rfl rfl rfl)
  · have hlook : lookup s u.win u.bay = none := by simpa [bayState] using hn
    have ht := htreat.trans (straddleWrite_treats hwf hk hpage hi hsig (by rw [hn]; simp))
    rw [straddleTouch_unbound (s := straddleSent s l r u.win) hlook] at ht
    exact execHeadEvent_quiet hs hd ht (quiet_straddleSent u.win)
  all_goals
    have ht (hp : (getCtx s c).state ≠ .priming) := htreat.trans (straddleWrite_treats (l := l) hwf hk hpage hi hsig
      (by rw [bayState_of_lookup hl]; simpa using hp))
    have hlook : lookup (straddleSent s l r u.win) u.win u.bay = some c := hl
  · have ht := (ht (by rw [show (getCtx s c).state = _ from hc]; simp)).trans (straddleTouch_collecting hlook hc)
    refine ⟨_, execHeadEvent_due hd, ?_⟩
    rw [ht]
    exact transferEnded (s := straddleSent s l r u.win) hb ((quiet_straddleSent u.win).nothingOwed.trans how) hlen hs.1
      (able_of_room hd.1 how hlen (by simp))
  · have ht := (ht (by rw [show (getCtx s c).state = _ from hc]; simp)).trans (straddleTouch_verified hlook hc)
    refine ⟨_, execHeadEvent_due hd, ?_⟩
    rw [ht]
    exact transferTainted (s := straddleSent s l r u.win) hb ((quiet_straddleSent u.win).nothingOwed.trans how) hlen hs.1
      (able_of_room hd.1 how hlen (by simp)) hv
  · have ht := (ht (by intro hp; rw [show (getCtx s c).state = _ from hp] at hf; cases hf)).trans
      (straddleTouch_final hlook hf hn)
    exact execHeadEvent_quiet hs hd ht ⟨rfl, ⟨owes_of_set rfl rfl, owed_of_set rfl rfl, rfl⟩, rfl⟩
  · have ht := (ht (by rw [show (getCtx s c).state = _ from hg]; simp)).trans (straddleTouch_guard hlook hg)
    have hlate : (modWinCounters (straddleSent s l r u.win) u.win fun k => { k with late := raise k.late 1 }) =
        { sent with windows := windows { counted with late := min (counted.late + 1) 4294967295 } } := by
      have hwin : getWin (straddleSent s l r u.win) u.win = { w with counters := counted } :=
        (getWin_of_set (s := s) rfl u.win).trans (if_pos rfl)
      rw [modWinCounters, modWin, hwin]
      simp [setWin, straddleSent, sent, windows, raise, Config.counterMax]
    rw [hlate] at ht
    exact execHeadEvent_quiet hs hd ht ⟨rfl, ⟨owes_of_set rfl rfl, fun _ => rfl, rfl⟩, rfl⟩
end

section
/-! The entry to HALTED (R129, R181), and CLEAR-ALL (R56, R128). -/

set_option Elab.async false

namespace Sys2Proof.Machine

variable {s t x : State} {o : Order} {l m : LaneId} {w : WinId}

/-! ### Held heads that a fold disposes of -/

theorem heldRequest_congr {y : State} {q : HoldReason → Bool} (h : getLane y l = getLane s l) :
    heldRequest y q l = heldRequest s q l := by
  unfold heldRequest
  rw [h]

/-- The port after a request is forwarded, the one form of R123. -/
theorem forwardHead_port (s : State) (l : LaneId) (r : Request) :
    (forwardHead s l r none).port = forwardRead s.port r := rfl

/-- What a head's hold says of a lane: the three ways of a head without a hold, and each reason. -/
theorem head_cases (x : Lane) : x.head.bind (·.hold) = none ∨
    ∃ r k, x.head = some { req := r, standing := .held k } := by
  cases hh : x.head with
  | none => exact .inl rfl
  | some h =>
    obtain ⟨r, st⟩ := h
    cases st with
    | held k => exact .inr ⟨r, k, rfl⟩
    | fresh | released => exact .inl rfl

theorem heldRequest_unheld {q : HoldReason → Bool} (h : (getLane s l).head.bind (·.hold) = none) :
    heldRequest s q l = none := by
  unfold heldRequest
  split
  next hh => rw [hh] at h; cases h
  all_goals rfl

theorem heldRequest_held {q : HoldReason → Bool} {r : Request} {k : HoldReason}
    (h : (getLane s l).head = some { req := r, standing := .held k }) :
    heldRequest s q l = if q k then some r else none := by
  unfold heldRequest
  rw [h]

/-! ### The entry to HALTED -/

theorem haltHead_unheld (h : (getLane s l).head.bind (·.hold) = none) : haltHead s l = s := by
  unfold haltHead
  split
  case h_5 => rfl
  case h_6 => rfl
  case h_7 => rfl
  all_goals next hh => rw [hh] at h; cases h

theorem haltHead_held {r : Request} {k : HoldReason} (h : (getLane s l).head = some { req := r, standing := .held k }) :
    haltHead s l = if k = .fence then clearHead (answerError s r) l else forwardHead s l r none := by
  unfold haltHead
  rw [h]
  cases k <;> rfl

theorem haltHead_counters (s : State) (l : LaneId) : (haltHead s l).counters = s.counters := by
  unfold haltHead
  split <;> rfl

theorem haltHead_upOut (s : State) (l : LaneId) :
    (haltHead s l).upOut = (heldRequest s (· == .fence) l).elim s.upOut fun r => s.upOut ++ [errorTo r] := by
  rcases head_cases (getLane s l) with h | ⟨r, k, h⟩
  · rw [haltHead_unheld h, heldRequest_unheld h]
    rfl
  · rw [haltHead_held h, heldRequest_held h]
    cases k <;> rfl

theorem haltHead_port (s : State) (l : LaneId) :
    (haltHead s l).port = (heldRequest s forwardedAtHalt l).elim s.port (forwardRead s.port) := by
  rcases head_cases (getLane s l) with h | ⟨r, k, h⟩
  · rw [haltHead_unheld h, heldRequest_unheld h]
    rfl
  · rw [haltHead_held h, heldRequest_held h]
    cases k <;> rfl

theorem heldRequest_haltHead (q : HoldReason → Bool) (s : State) (l m : LaneId) (h : l ≠ m) :
    heldRequest (haltHead s l) q m = heldRequest s q m := heldRequest_congr (getLane_haltHead_of_ne h)

theorem haltHeads_upOut (s : State) : (allLanes.foldl haltHead s).upOut =
    s.upOut ++ (allLanes.filterMap (heldRequest s (· == .fence))).map errorTo := by
  rw [foldl_collects (f := fun s l => heldRequest s (· == .fence) l) (heldRequest_haltHead _) State.upOut
    (fun u r => u ++ [errorTo r]) (fun s l r h => by rw [haltHead_upOut, h]; rfl)
    (fun s l h => by rw [haltHead_upOut, h]; rfl) nodup_allLanes, foldl_append_map]

theorem haltHeads_port (s : State) : (allLanes.foldl haltHead s).port =
    { s.port with q1 := s.port.q1 ++ (allLanes.filterMap (heldRequest s forwardedAtHalt)).map (forwardedReq · none) } := by
  rw [foldl_collects (f := fun s l => heldRequest s forwardedAtHalt l) (heldRequest_haltHead _) State.port
    forwardRead (fun s l r h => by rw [haltHead_port, h]; rfl)
    (fun s l h => by rw [haltHead_port, h]; rfl) nodup_allLanes, forwardRead_each]

/-- R129: a lane after the disposal of its held head. -/
theorem getLane_haltHead (s : State) (l : LaneId) : (getLane (haltHead s l) l).backlog = (getLane s l).backlog ∧
    (getLane (haltHead s l) l).head =
      if (getLane s l).head.any (·.hold.isSome) then none else (getLane s l).head := by
  rcases head_cases (getLane s l) with h | ⟨r, k, h⟩
  · have hany : (getLane s l).head.any (·.hold.isSome) = false := by
      cases hh : (getLane s l).head with
      | none => rfl
      | some k =>
        rw [hh] at h
        simpa using h
    rw [haltHead_unheld h, hany]
    exact ⟨rfl, rfl⟩
  · have hany : (getLane s l).head.any (·.hold.isSome) = true := by
      rw [h]
      rfl
    have hgone (y : State) (hy : y.lanes = s.lanes) : getLane (clearHead y l) l = { getLane s l with head := none } := by
      rw [getLane_clearHead, if_pos rfl, getLane_congr hy]
    rw [haltHead_held h, hany, if_pos rfl]
    split
    · rw [hgone (answerError s r) rfl]
      exact ⟨rfl, rfl⟩
    · rw [show forwardHead s l r none = clearHead (forward s r none) l from rfl, hgone (forward s r none) rfl]
      exact ⟨rfl, rfl⟩

theorem getLane_haltHeads (s : State) (l : LaneId) : (getLane (allLanes.foldl haltHead s) l).backlog = (getLane s l).backlog ∧
    (getLane (allLanes.foldl haltHead s) l).head =
      if (getLane s l).head.any (·.hold.isSome) then none else (getLane s l).head := by
  obtain ⟨y, hy, hop⟩ := foldl_own getLane (op := haltHead) (fun s i k h => getLane_haltHead_of_ne h) nodup_allLanes
    (mem_allLanes l) s
  rw [hop, ← hy]
  exact getLane_haltHead y l

/-- R181, R129: what the entry to HALTED on the response to an issued request leaves. -/
theorem haltedFrom (s : State) (id : Nat) : HaltedFrom s (enterHalted (retireIssued s id)) id := by
  have hlane := getLane_haltHeads (retireIssued s id)
  have hup := haltHeads_upOut (retireIssued s id)
  have hport := haltHeads_port (retireIssued s id)
  have h := fun {β : Type} (g : State → β) (hg : ∀ x l, g (haltHead x l) = g x) =>
    foldl_unchanged g haltHead hg allLanes (retireIssued s id)
  unfold enterHalted HaltedFrom
  generalize allLanes.foldl haltHead (retireIssued s id) = y at hlane hup hport h ⊢
  have hq1 : y.port.q1 = s.port.q1 ++ (allLanes.filterMap (heldRequest s forwardedAtHalt)).map (forwardedReq · none) := by
    rw [hport]
    rfl
  have hid : y.port.nextId = s.port.nextId := by
    rw [hport]
    rfl
  have hout : y.port.outstanding = s.port.outstanding.filter fun o => decide (o.id ≠ id) := by
    rw [hport]
    rfl
  have hengine : y.engine = s.engine := h (·.engine) (by simp)
  have htime : y.time = s.time := h (·.time) (by simp)
  have hsweeper : y.sweeper = s.sweeper := h (·.sweeper) (by simp)
  have hcounters : y.counters = s.counters := h (·.counters) haltHead_counters
  refine ⟨?_, hlane, hup, hq1, rfl, rfl, rfl, hid, ?_, rfl, fun l => ⟨?_, ?_⟩, ?_, ?_, ?_, ?_⟩
  · dsimp only
    rw [hengine]
  · simp only [haltPort, hout]
  · simp [getSlot]
  · simp [getFence]
  · dsimp only
    rw [htime]
  · dsimp only
    rw [hsweeper]
  · simp only [Prod.mk.injEq]
    exact ⟨h (·.stall) (by simp), h (·.windows) (by simp), h (·.ctxs) (by simp), h (·.serial) (by simp), h (·.pool) (by simp)⟩
  · simp only [Prod.mk.injEq]
    exact ⟨h (·.report) (by simp), h (·.orders) (by simp), hcounters, h (·.choices) (by simp), h (·.pending) (by simp)⟩

/-! ### CLEAR-ALL -/

theorem clearLane_unheld (h : (getLane s l).head.bind (·.hold) = none) : clearLane s l = s := by
  unfold clearLane
  split
  case h_5 => rfl
  case h_6 => rfl
  case h_7 => rfl
  all_goals next hh => rw [hh] at h; cases h

theorem clearLane_upOut (s : State) (l : LaneId) :
    (clearLane s l).upOut = (heldRequest s (· == .fence) l).elim s.upOut fun r => s.upOut ++ [errorTo r] := by
  rcases head_cases (getLane s l) with h | ⟨r, k, h⟩
  · rw [clearLane_unheld h, heldRequest_unheld h]
    rfl
  · rw [heldRequest_held h, clearLane, h]
    cases k <;> rfl

theorem clearLane_port (s : State) (l : LaneId) :
    (clearLane s l).port = (heldRequest s forwardedAtClear l).elim s.port (forwardRead s.port) := by
  rcases head_cases (getLane s l) with h | ⟨r, k, h⟩
  · rw [clearLane_unheld h, heldRequest_unheld h]
    rfl
  · rw [heldRequest_held h, clearLane, h]
    cases k <;> rfl

theorem heldRequest_clearLane (q : HoldReason → Bool) (s : State) (l m : LaneId) (h : l ≠ m) :
    heldRequest (clearLane s l) q m = heldRequest s q m :=
  heldRequest_congr (congrArg Prod.fst (laneAndFence_clearLane_of_ne s l m h))

section Lanes

/-! The list of lanes is kept as a variable here: a proof must not run the fold. -/

variable {ls : List LaneId} (hn : ls.Nodup)

include hn

theorem clearedState_upOut (s : State) : (clearedState ls s).upOut =
    s.upOut ++ (ls.filterMap (heldRequest s (· == .fence))).map errorTo := by
  rw [show (clearedState ls s).upOut = (ls.foldl clearLane s).upOut from rfl,
    foldl_collects (f := fun s l => heldRequest s (· == .fence) l) (heldRequest_clearLane _) State.upOut
    (fun u r => u ++ [errorTo r]) (fun s l r h => by rw [clearLane_upOut, h]; rfl)
    (fun s l h => by rw [clearLane_upOut, h]; rfl) hn, foldl_append_map]

theorem clearedState_port (s : State) : (clearedState ls s).port =
    { s.port with
      q1 := s.port.q1 ++ (ls.filterMap (heldRequest s forwardedAtClear)).map (forwardedReq · none)
      q2 := []
      outstanding := s.port.outstanding.map (orphanWhere Owner.isReconcile) } := by
  have hfold : (ls.foldl clearLane s).port =
      { s.port with q1 := s.port.q1 ++ (ls.filterMap (heldRequest s forwardedAtClear)).map (forwardedReq · none) } := by
    rw [foldl_collects (f := fun s l => heldRequest s forwardedAtClear l) (heldRequest_clearLane _) State.port
      forwardRead (fun s l r h => by rw [clearLane_port, h]; rfl)
      (fun s l h => by rw [clearLane_port, h]; rfl) hn, forwardRead_each]
  rw [show (clearedState ls s).port = { (ls.foldl clearLane s).port with
      q2 := []
      outstanding := (ls.foldl clearLane s).port.outstanding.map (orphanWhere Owner.isReconcile) } from rfl, hfold]

end Lanes

theorem drainApplies_stay {ws : List WinId} (h : ∀ w, (getWin s w).staged = none) : ws.foldl drainApply s = s := by
  induction ws with
  | nil => rfl
  | cons w ws ih => rw [List.foldl_cons, drainApply_stays (.inl (h w)), ih]

theorem afterClearAll_plain {ls : List LaneId} {ws : List WinId} (hs : ∀ w, (getWin s w).staged = none)
    (hj : s.sweeper.job = none) : afterClearAll ls ws s = clearedState ls s := by
  obtain ⟨-, -, -, -, -, -, hsweeper⟩ := clearedState_frame ls s
  obtain ⟨-, -, -, -, hwin⟩ := clearedState_tracks ls s
  have hstop : stopSweepFor (clearedState ls s) .cleared = clearedState ls s := by
    rw [stopSweepFor, hsweeper, hj]
  rw [afterClearAll, hstop]
  exact drainApplies_stay fun w => by rw [hwin]; exact hs w

theorem orderClearAll_snd (o : Order) (s : State) :
    (orderClearAll o s).2 = { status := .done, ctx := none, value := some (256 - freeCount s) } := by
  simp only [orderClearAll]

theorem orderClearAll_plain (o : Order) (hs : ∀ w, (getWin s w).staged = none) (hj : s.sweeper.job = none) :
    orderClearAll o s =
      (clearedState allLanes s, { status := .done, ctx := none, value := some (256 - freeCount s) }) :=
  Prod.ext ((orderClearAll_fst o s).trans (afterClearAll_plain hs hj)) (orderClearAll_snd o s)

theorem sameOwed_clearedState {ls : List LaneId} (h : ∀ c, (getCtx s c).owed = 0) : SameOwed s (clearedState ls s) := by
  obtain ⟨-, -, -, -, -, -, hsweeper⟩ := clearedState_frame ls s
  obtain ⟨hctx, -, -, -, hwin⟩ := clearedState_tracks ls s
  exact ⟨fun w => by rw [hwin]; rfl, fun c => by rw [hctx, h]; rfl, by rw [hsweeper]⟩

/-- R128: a lane's head after CLEAR-ALL. -/
theorem clearedLane_head (y : Lane × Option FenceRec) : (clearedLane y).1.head =
    (match y.1.head with
      | some { req := r, standing := .held .conflict } => some { req := r, standing := .released }
      | some { req := _, standing := .held _ } => none
      | some h => some h
      | none => none) := by
  unfold clearedLane
  rcases head_cases y.1 with h | ⟨r, k, h⟩
  · cases hh : y.1.head with
    | none => simp [hh]
    | some q =>
      obtain ⟨a, st⟩ := q
      rw [hh] at h
      cases st with
      | held k => cases h
      | fresh | released => simp [hh]
  · rw [h]
    cases k <;> rfl

theorem clearedLane_fence {y : Lane × Option FenceRec} (h : y.1.head.bind (·.hold) = some .fence) :
    (clearedLane y).2 = none := by
  rcases head_cases y.1 with hn | ⟨r, k, hk⟩
  · rw [hn] at h
    cases h
  · rw [hk] at h
    obtain rfl : k = .fence := by simpa [Head.hold] using h
    rw [clearedLane, hk]

end Sys2Proof.Machine

open Sys2Proof Sys2Proof.Machine

/-- Settles O7. -/
theorem engineErrorHalts : Obligations.EngineErrorHalts := by
  intro id m s hm
  refine ⟨fun hrun ho => ⟨_, ?_, haltedFrom s id⟩, fun hload ho => ⟨_, ?_, haltedFrom s id⟩⟩
  · obtain ⟨kind, addr, count, data, owner⟩ := m
    rcases ho with h | h | h <;> cases h <;> simp only [exec, execEngineWriteError, hrun, hm]
  · obtain ⟨kind, addr, count, data, owner⟩ := m
    rcases ho with h | ⟨off, h⟩ <;> cases h <;> simp only [exec, execLoadError, hm] <;> exact if_pos hload

/-- Settles O28. -/
theorem clearAllFreesEverything : Obligations.ClearAllFreesEverything := by
  intro o s hf hcode hstaged hjob
  have hclear := orderClearAll_plain (s := clearDue s) o hstaged hjob
  obtain ⟨hrun, hwait, hlen, howed⟩ := able_spec hf.able
  obtain ⟨hengine, hstall, hserial, hreport, horders, htime, hsweeper⟩ := clearedState_frame allLanes (clearDue s)
  obtain ⟨hctx, hslot, hpool, hbuilder, hwin⟩ := clearedState_tracks allLanes (clearDue s)
  have hlane (l : LaneId) := laneAndFence_clearedState nodup_allLanes mem_allLanes (clearDue s) l
  have hown : anyOwed (clearedState allLanes (clearDue s)) = false :=
    (sameOwed_clearedState (s := clearDue s) (able_owed hf.able)).anyOwed.trans howed
  have hup := clearedState_upOut nodup_allLanes (clearDue s)
  have hport := clearedState_port nodup_allLanes (clearDue s)
  have hexec := exec_clearAll hf hcode
  generalize clearedState allLanes (clearDue s) = x at hclear hown hup hport hengine hstall hserial hreport horders htime hsweeper hctx hslot hpool hbuilder hwin hlane
  have hc := takeOrder_closed (s := s) (f := orderClearAll) (o := o) (by rw [hclear, horders]; exact hwait)
    (by rw [hclear]; exact hown) (by rw [hclear, hreport]; exact hlen.le)
  rw [hclear] at hc
  refine ⟨_, hexec, ?_⟩
  generalize takeOrder orderClearAll o s = t at hc ⊢
  obtain ⟨twin, tctx, tserial, tpool, tbuilder, tslots, tfence⟩ := trackSide_windows hc.track
  obtain ⟨ttime, tsweeper, -⟩ := clockSide_parts hc.clock
  have tlane := hc.lane
  simp only [laneSide, Prod.mk.injEq] at tlane
  obtain ⟨tlanes, tstall, tup⟩ := tlane
  have hside (l : LaneId) : laneAndFence t l = clearedLane (laneAndFence s l) := (laneAndFence_congr tlanes tfence l).trans (hlane l)
  have hring : ringWrites x t = ringWrites s t :=
    ringWrites_congr (by rw [hreport]; rfl) (by rw [hreport]; rfl) (by rw [hengine]; rfl)
  have htport : t.port = { s.port with
      q1 := s.port.q1 ++ (allLanes.filterMap (heldRequest s forwardedAtClear)).map (forwardedReq · none)
      q2 := []
      q3 := s.port.q3 ++ ringWrites s t
      outstanding := s.port.outstanding.map (orphanWhere Owner.isReconcile) } := by
    rw [hc.port, hport, hring]
    rfl
  refine ⟨?_, fun c => (getCtx_congr tctx c).trans (hctx c), tpool.trans hpool, tbuilder.trans hbuilder,
    fun w => (getWin_congr twin w).trans (hwin w), fun l => ⟨(getSlot_congr tslots l).trans (hslot l), ?_, ?_, fun h => ?_⟩,
    by rw [htport], by rw [htport], by rw [htport], by rw [htport], by rw [htport], tup.trans hup, tserial.trans hserial, ?_, ?_, ?_,
    ttime.trans htime, tsweeper.trans hsweeper, tstall.trans hstall⟩
  · rw [hc.reported, reported, hreport, horders]
    rfl
  · rw [show getLane t l = _ from congrArg Prod.fst (hside l), (clearedLane_spec _).1]
    rfl
  · rw [show getLane t l = _ from congrArg Prod.fst (hside l)]
    exact clearedLane_head (laneAndFence s l)
  · rw [show getFence t l = _ from congrArg Prod.snd (hside l)]
    exact clearedLane_fence (y := laneAndFence s l) h
  · rw [hc.shadow, horders]
    rfl
  · rw [hc.slot, horders]
    rfl
  · rw [hc.ring, ringSide, hreport]
    rfl
end

section
/-! Visits of the Recheck Sweeper (R154 to R157, R160). -/

set_option Elab.async false

namespace Sys2Proof.Machine

variable {s t : State} {c : CtxId} {b : Binding} {j : SweepJob} {w : WinId}

/-! ### The end of a visit (R154, R157, R160) -/

/-- The state with this sweeper. -/
def withSweeper (s : State) (x : Sweeper) : State := { s with sweeper := x }

/-- The state after a visit has ended with the pass counts of its sweeper. -/
def sweptState (s : State) (j : SweepJob) : State :=
  withSweeper (build s (passRecord j s.sweeper)) (sweptOn s j s.sweeper)

theorem endVisit_swept (hj : s.sweeper.job = some j) (hv : s.sweeper.visit = none)
    (hr : j.current = j.last → hasRoom s 1 = true) : endVisit s = sweptState s j := by
  simp only [endVisit, hj, sweptState, passRecord, sweptOn]
  by_cases hlast : j.current = j.last
  · rw [if_pos hlast, if_pos hlast, if_pos hlast, handSweeper_room (hr hlast)]
    cases hm : j.mode <;> simp [modSweeper, withSweeper, sweepReport, ← hv]
  · rw [if_neg hlast, if_neg hlast, if_neg hlast]
    cases hm : j.mode <;> simp [modSweeper, withSweeper, nextBay, ← hv] <;> rfl

theorem sweptOn_waiting (s : State) (j : SweepJob) (x : Sweeper) : (sweptOn s j x).waiting = x.waiting := by
  unfold sweptOn
  repeat' split
  all_goals rfl

theorem passRecord_length (j : SweepJob) (x : Sweeper) : (passRecord j x).length = if j.current = j.last then 1 else 0 := by
  unfold passRecord
  split <;> rfl

theorem leaves_withSweeper {x : Sweeper} {rs : List Report} {y : State} (h : Leaves s y rs) (hx : x.waiting = y.sweeper.waiting) :
    Leaves s (withSweeper y x) rs :=
  h.same (SameOwed.anyOwed ⟨fun _ => rfl, fun _ => rfl, hx⟩) rfl rfl rfl

theorem leaves_sweptState {rs : List Report} {y : State} (h : Leaves s y rs) (hw : s.orders.waitingDone = none) :
    Leaves s (sweptState y j) (rs ++ passRecord j y.sweeper) :=
  leaves_withSweeper (h.build hw) ((sweptOn_waiting y j y.sweeper).trans (by simp))

/-- What an event of the sweeper that reports leaves, where its effects are those of a sweeper `x` on state `s`. -/
theorem Reports.sweepFrame {y : State} {rs : List Report} (h : Reports s y t rs) (ha : s.engine.attn = attnLevel s)
    (hp : y.port = s.port) (hl : laneSide y = laneSide s) (hor : y.orders = s.orders) (ht : y.time = s.time)
    (hk : y.counters = s.counters)
    (hrest : (y.serial, y.pool, y.builder, y.slots, y.fence) = (s.serial, s.pool, s.builder, s.slots, s.fence))
    (hmodel : (y.choices, y.pending) = (s.choices, s.pending)) : SweepFrame s t rs := by
  obtain ⟨⟨-, -, hserial, hpool, hbuilder, hslots, hfence⟩, ⟨htime, -, hcounters, hchoices, hpending⟩, -⟩ := h.sides
  refine ⟨h.reported, h.seq, by rw [h.port, hp], h.ring, h.lane.trans hl, ?_, ?_, ?_⟩
  · rw [h.engine_same ha, h.orders, htime, hcounters, hor, ht, hk]
  · rw [hserial, hpool, hbuilder, hslots, hfence, hrest]
  · rw [hchoices, hpending, hmodel]

theorem sweptOn_congr {y : State} (h : y.windows = s.windows) (j : SweepJob) (x : Sweeper) : sweptOn y j x = sweptOn s j x := by
  have hbays : bayCount y j.win = bayCount s j.win := by rw [bayCount, bayCount, getWin_congr h]
  rw [sweptOn, sweptOn, hbays]

/-- R154, R157, R160: the close of an event in which a visit has ended with its bay checked or skipped. -/
theorem visitOver {b0 : State} {x : Sweeper} (hj : x.job = some j) (hv : x.visit = none)
    (hx : x.waiting = s.sweeper.waiting) (hn : nothingOwed s = true) (hl : s.report.list.length < 32)
    (ha : s.engine.attn = attnLevel s) (hable : able b0 = true) :
    VisitOver s (settle b0 (endVisit (withSweeper s x))) j x := by
  obtain ⟨hown, hw⟩ := nothingOwed_spec hn
  have hbase : Leaves s (withSweeper s x) [] := leaves_withSweeper (.refl s) hx
  have hroom : hasRoom (withSweeper s x) 1 = true := hbase.room ((hasRoom_iff _).mpr ⟨hl, hown⟩)
  rw [endVisit_swept (s := withSweeper s x) hj hv fun _ => hroom]
  have hc := (leaves_sweptState (j := j) hbase hw).close hn hable
  generalize settle b0 (sweptState (withSweeper s x) j) = t at hc ⊢
  obtain ⟨⟨hwins, hctxs, -⟩, ⟨-, hsweeper, -⟩, -⟩ := hc.sides
  refine ⟨hc.sweepFrame ha ?_ ?_ ?_ ?_ ?_ ?_ ?_, hsweeper, hctxs.trans ?_, hwins.trans ?_⟩
  all_goals simp [sweptState, withSweeper, laneSide]

/-! ### A failed visit (R157, R50) -/

/-- The RECHECK-FAIL of a failed visit. -/
def failRecord (s : State) (c : CtxId) (b : Binding) (k : Cause) (v : Option Nat) : Report :=
  .recheckFail k c b.win b.bay b.number v ((getCtx s c).verifiedCheck.getD 0)

/-- The state after a visit has failed. -/
def failedState (s : State) (c : CtxId) (b : Binding) (k : Cause) (v : Option Nat) : State :=
  build (withSweeper (secondReported s c b { state := .corrupted, cause := k }) { s.sweeper with failed := s.sweeper.failed + 1 })
    [failRecord s c b k v]

theorem leaves_failedState (hw : s.orders.waitingDone = none) (k : Cause) (v : Option Nat) :
    Leaves s (failedState s c b k v) (endRecords s c b { state := .corrupted, cause := k } ++ [failRecord s c b k v]) :=
  (leaves_withSweeper (leaves_secondReported { state := .corrupted, cause := k } hw) (by simp [secondReported])).build hw

theorem failVisit_room {k : Cause} {v : Option Nat} (hc : (getCtx s c).state = .verified)
    (hb : (getCtx s c).binding = some b) (hw : s.orders.waitingDone = none)
    (hr : hasRoom s ((endRecords s c b { state := .corrupted, cause := k }).length + 1) = true) :
    failVisit s c k v = failedState s c b k v := by
  have hsecond := enterSecond_reported (f := { state := .corrupted, cause := k }) hb hw (hasRoom_mono hr (by omega))
  have hleaves : Leaves s (withSweeper (secondReported s c b { state := .corrupted, cause := k })
      { s.sweeper with failed := s.sweeper.failed + 1 }) _ :=
    leaves_withSweeper (leaves_secondReported { state := .corrupted, cause := k } hw) (by simp [secondReported])
  have hsweep : (modSweeper (secondReported s c b { state := .corrupted, cause := k }) fun x =>
      { x with failed := x.failed + 1 }) = withSweeper (secondReported s c b { state := .corrupted, cause := k })
        { s.sweeper with failed := s.sweeper.failed + 1 } := by
    have hsame : (secondReported s c b { state := .corrupted, cause := k }).sweeper = s.sweeper := by simp [secondReported]
    rw [modSweeper, hsame, withSweeper]
  simp only [failVisit, hb, hsecond, hsweep]
  rw [if_pos hc, handSweeper_room (hleaves.room hr)]
  rfl

/-- R157, R50, R154: the close of an event in which a visit has failed, but for ATTN. -/
theorem failedVisit_reports {b0 : State} {k : Cause} {v : Option Nat} (hc : (getCtx s c).state = .verified)
    (hb : (getCtx s c).binding = some b) (hj : s.sweeper.job = some j) (hv : s.sweeper.visit = none)
    (hn : nothingOwed s = true) (hable : able b0 = true)
    (hr : hasRoom s ((endRecords s c b { state := .corrupted, cause := k }).length + 1 +
      (passRecord j { s.sweeper with failed := s.sweeper.failed + 1 }).length) = true) :
    Reports s (sweptState (failedState s c b k v) j) (settle b0 (endVisit (failVisit s c k v)))
      (endRecords s c b { state := .corrupted, cause := k } ++ [failRecord s c b k v] ++
        passRecord j { s.sweeper with failed := s.sweeper.failed + 1 }) := by
  obtain ⟨hown, hw⟩ := nothingOwed_spec hn
  have hleaves := leaves_failedState (c := c) (b := b) hw k v
  have hsweeper : (failedState s c b k v).sweeper = { s.sweeper with failed := s.sweeper.failed + 1 } := by
    simp [failedState, withSweeper]
  have hroom (hlast : j.current = j.last) : hasRoom (failedState s c b k v) 1 = true :=
    hleaves.room (hasRoom_mono hr (by rw [passRecord_length, if_pos hlast]; simp))
  rw [failVisit_room hc hb hw (hasRoom_mono hr (by omega)),
    endVisit_swept (by rw [hsweeper]; exact hj) (by rw [hsweeper]; exact hv) hroom]
  have hswept := leaves_sweptState (j := j) hleaves hw
  rw [hsweeper] at hswept
  exact hswept.close hn hable

/-- What a failed visit leaves of the blocks, before the close of its event. -/
theorem failedVisit_frame (k : Cause) (v : Option Nat) :
    (sweptState (failedState s c b k v) j).ctxs =
      s.ctxs.set c.val { getCtx s c with state := .corrupted, second := some { state := .corrupted, cause := k } } c.isLt ∧
    (sweptState (failedState s c b k v) j).windows =
      s.windows.set b.win.val (endedWindow (getWin s b.win) .corrupted) b.win.isLt ∧
    (sweptState (failedState s c b k v) j).sweeper = sweptOn s j { s.sweeper with failed := s.sweeper.failed + 1 } := by
  have hsweeper : (failedState s c b k v).sweeper = { s.sweeper with failed := s.sweeper.failed + 1 } := by
    simp [failedState, withSweeper]
  have hbays : bayCount (failedState s c b k v) j.win = bayCount s j.win := by
    have hwin : (getWin (failedState s c b k v) j.win).defn = (getWin s j.win).defn := by
      have hset : (failedState s c b k v).windows =
          s.windows.set b.win.val (endedWindow (getWin s b.win) .corrupted) b.win.isLt := by
        simp [failedState, withSweeper, secondReported, setWin]
      rw [getWin_of_set hset]
      split
      next h => rw [← h]; rfl
      next => rfl
    rw [bayCount, bayCount, hwin]
  refine ⟨?_, ?_, ?_⟩
  · simp [sweptState, withSweeper, failedState, secondReported, setCtx, secondContext]
  · simp [sweptState, withSweeper, failedState, secondReported, setWin]
  · rw [show (sweptState (failedState s c b k v) j).sweeper = sweptOn _ j (failedState s c b k v).sweeper from rfl, hsweeper,
      sweptOn, sweptOn, hbays]

theorem failedVisit_rest (k : Cause) (v : Option Nat) :
    let x := sweptState (failedState s c b k v) j
    x.serial = s.serial ∧ x.pool = s.pool ∧ x.builder = s.builder ∧ x.slots = s.slots ∧ x.fence = s.fence ∧
      x.time = s.time ∧ x.counters = s.counters ∧ x.port = s.port ∧ laneSide x = laneSide s ∧ x.orders = s.orders := by
  simp [sweptState, withSweeper, failedState, secondReported, laneSide]

theorem visitFailed {b0 : State} {k : Cause} {v : Option Nat} (hc : (getCtx s c).state = .verified)
    (hb : (getCtx s c).binding = some b) (hj : s.sweeper.job = some j) (hv : s.sweeper.visit = none)
    (hn : nothingOwed s = true) (hl : s.report.list.length + 6 ≤ 32) (ha : s.engine.attn = attnLevel s)
    (hable : able b0 = true) : VisitFailed s (settle b0 (endVisit (failVisit s c k v))) c b j k v := by
  have hr : hasRoom s ((endRecords s c b { state := .corrupted, cause := k }).length + 1 +
      (passRecord j { s.sweeper with failed := s.sweeper.failed + 1 }).length) = true := by
    refine hasRoom_mono ((hasRoom_iff 6).mpr ⟨hl, (nothingOwed_spec hn).1⟩) ?_
    have hends := endRecords_length s c b { state := .corrupted, cause := k }
    rw [passRecord_length]
    split <;> omega
  have hreports := failedVisit_reports (b0 := b0) (v := v) hc hb hj hv hn hable hr
  obtain ⟨hctxs, hwins, hsweeper⟩ := failedVisit_frame (s := s) (c := c) (b := b) (j := j) k v
  generalize settle b0 (endVisit (failVisit s c k v)) = t at hreports ⊢
  obtain ⟨⟨twins, tctxs, -⟩, ⟨-, tsweeper, -⟩, -⟩ := hreports.sides
  refine ⟨hreports.sweepFrame ha ?_ ?_ ?_ ?_ ?_ ?_ ?_, tsweeper.trans hsweeper, tctxs.trans hctxs, twins.trans hwins⟩
  all_goals simp [sweptState, withSweeper, failedState, secondReported, laneSide]

/-! ### A visit's beginning (R155, R156) -/

theorem execVisitBegin_begins (hr : s.engine.state = .running) (hs : s.sweeper.state = .running)
    (hj : s.sweeper.job = some j) (hv : s.sweeper.visit = none) (hw : s.sweeper.waiting = []) :
    exec .visitBegin s = .next (settle s (beginVisit s j)) := by
  simp only [exec, execVisitBegin, hr, hs, hj, hv, hw]

theorem beginVisit_skips (h : bayState s j.win j.current ≠ some .verified) :
    beginVisit s j = endVisit (withSweeper s { s.sweeper with skipped := s.sweeper.skipped + 1 }) := by
  cases hl : lookup s j.win j.current with
  | none =>
    simp only [beginVisit, hl]
    rfl
  | some c =>
    rw [bayState_of_lookup hl] at h
    have hne : (getCtx s c).state ≠ .verified := fun hv => h (by rw [hv])
    simp only [beginVisit, hl]
    split
    next hv _ => exact absurd hv hne
    next => rfl

theorem beginVisit_empty (hl : lookup s j.win j.current = some c) (hc : (getCtx s c).state = .verified)
    (hb : (getCtx s c).binding = some b) (hlen : (getCtx s c).len = some 0) : beginVisit s j = judgeVisit s c 0 := by
  simp only [beginVisit, hl, hc, hb, hlen]
  rfl

theorem beginVisit_reads {n : Nat} (hl : lookup s j.win j.current = some c) (hc : (getCtx s c).state = .verified)
    (hb : (getCtx s c).binding = some b) (hlen : (getCtx s c).len = some (n + 1)) :
    beginVisit s j = handChunk s { ctx := c, number := b.number, len := n + 1, sum := 0, chunk := 0, reads := [] } 0 := by
  simp only [beginVisit, hl, hc, hb, hlen]
  rfl

theorem discardVisit_none (h : s.sweeper.visit = none) : discardVisit s = s := by
  rw [discardVisit, h]

theorem discardVisit_some {v : Visit} (h : s.sweeper.visit = some v) :
    discardVisit s = { s with
      sweeper := { s.sweeper with visit := none }
      port := { s.port with q4 := [], outstanding := s.port.outstanding.map (orphanWhere Owner.isRecheck) } } := by
  rw [discardVisit, h]
  rfl

theorem judgeVisit_checked {v : Nat} (h : (getCtx (discardVisit s) c).verifiedCheck = some v) :
    judgeVisit s c v = endVisit (withSweeper (discardVisit s)
      { (discardVisit s).sweeper with checked := (discardVisit s).sweeper.checked + 1 }) := by
  have hctx : getCtx (discardVisit s) c = getCtx s c := getCtx_congr (by simp) c
  rw [hctx] at h
  exact if_pos h

theorem judgeVisit_fails {v : Nat} (h : (getCtx s c).verifiedCheck ≠ some v) :
    judgeVisit s c v = endVisit (failVisit (discardVisit s) c .checkDiffers (some v)) := if_neg h

/-- R156: the reads of a chunk as requests. -/
theorem chunkReads_requests (d : WinDef) (bay len chunk : Nat) :
    (chunkReads len chunk).map (recheckRequest d bay) =
      (((List.range 16).map fun i => 4096 * chunk + 256 * i).filter fun a => decide (a < len)).map fun a =>
        { kind := .read, addr := BitVec.ofNat 40 (d.bayBase bay + a), count := min 256 (len - a), data := [],
          owner := .recheck a } := by
  rw [chunkReads]
  induction (List.range 16).map fun i => 4096 * chunk + 256 * i with
  | nil => rfl
  | cons a rest ih =>
    by_cases h : a < len
    · simp only [List.filterMap_cons, List.filter_cons, h, if_true, decide_true, List.map_cons, ih]
      rfl
    · simp only [List.filterMap_cons, List.filter_cons, h, if_false, decide_false, ih]
      rfl

/-- The offsets of the first chunk's reads. -/
theorem chunk_first {α : Type} (len : Nat) (f : Nat → α) :
    ((((List.range 16).map fun i => 4096 * 0 + 256 * i).filter fun a => decide (a < len)).map f) =
      ((List.range 16).filter fun i => decide (256 * i < len)).map fun i => f (256 * i) := by
  simp only [Nat.mul_zero, Nat.zero_add, List.filter_map, List.map_map]
  rfl

theorem handChunk_eq {v : Visit} {d : WinDef} (hb : (getCtx s v.ctx).binding = some b) (hd : (getWin s b.win).defn = some d)
    (chunk : Nat) :
    handChunk s v chunk = { s with
      sweeper := { s.sweeper with visit := some { v with chunk := chunk, reads := chunkReads v.len chunk } }
      port := { s.port with q4 := s.port.q4 ++ (chunkReads v.len chunk).map (recheckRequest d b.bay) } } := by
  have hdefn : defnOf s v.ctx = some d := by
    rw [defnOf, windowOf, hb]
    exact hd
  simp only [handChunk, hb, hdefn]
  rfl

/-- R154: the sweeper goes on to the next bay. -/
theorem endVisit_goesOn (hj : s.sweeper.job = some j) (hlast : j.current ≠ j.last) :
    endVisit s = withSweeper s { s.sweeper with
      state := if j.mode = .step then .waitingStep else .running
      job := some { j with current := if j.current + 1 < bayCount s j.win then j.current + 1 else 0 } } := by
  simp only [endVisit, hj]
  rw [if_neg hlast]
  cases j.mode <;> rfl

theorem endVisit_withSweeper {x : Sweeper} (hj : x.job = some j) (hlast : j.current ≠ j.last) :
    endVisit (withSweeper s x) = withSweeper s { x with
      state := if j.mode = .step then .waitingStep else .running
      job := some { j with current := if j.current + 1 < bayCount s j.win then j.current + 1 else 0 } } :=
  endVisit_goesOn (s := withSweeper s x) hj hlast

theorem quiet_withSweeper {x : Sweeper} (h : x.waiting = s.sweeper.waiting) : Quiet s (withSweeper s x) :=
  Quiet.of_eq rfl rfl rfl h rfl

/-! ### The answers to a visit's reads (R156, R157) -/

section Answers

variable {id off : Nat} {data : List Byte} {m : MemReq} {v : Visit}

theorem execRecheckReadDone_fits (hm : findIssued s id = some m) (ho : m.owner = .recheck off) (hd : data.length = m.count)
    (hv : s.sweeper.visit = some v) (hrun : s.engine.state = .running) :
    exec (.recheckReadDone id data) s = .next (settle s (takeRead (retireIssued s id) v off data)) := by
  obtain ⟨kind, addr, count, mdata, owner⟩ := m
  cases ho
  have hr : ¬ isRunning s = false := by simp [isRunning, hrun]
  simp only [exec, execRecheckReadDone, hm, hv]
  rw [if_neg hr, if_pos hd]

theorem execRecheckReadError_visit (hm : findIssued s id = some m) (ho : m.owner = .recheck off)
    (hv : s.sweeper.visit = some v) (hrun : s.engine.state = .running) :
    exec (.recheckReadError id) s =
      .next (settle s (endVisit (failVisit (discardVisit (retireIssued s id)) v.ctx .readError none))) := by
  obtain ⟨kind, addr, count, mdata, owner⟩ := m
  cases ho
  have hr : ¬ isRunning s = false := by simp [isRunning, hrun]
  simp only [exec, execRecheckReadError, hm, hv]
  exact if_neg hr

/-- A visit after an OKAY answer is added to it (R156, R19). -/
def readAdded (s : State) (v : Visit) (off : Nat) (data : List Byte) : Visit := addRead s (answerRead v off) off data

theorem takeRead_open (h : (readAdded s v off data).reads.all (fun x => decide (x.standing = .answered)) = false) :
    takeRead s v off data = withSweeper s { s.sweeper with visit := some (readAdded s v off data) } := by
  simp only [takeRead]
  exact if_neg (by rw [show addRead s (answerRead v off) off data = readAdded s v off data from rfl, h]; simp)

theorem takeRead_chunk (h : (readAdded s v off data).reads.all (fun x => decide (x.standing = .answered)) = true)
    (hl : 4096 * (v.chunk + 1) < v.len) :
    takeRead s v off data = handChunk s (readAdded s v off data) (v.chunk + 1) := by
  simp only [takeRead]
  exact (if_pos h).trans (if_pos hl)

theorem takeRead_last (h : (readAdded s v off data).reads.all (fun x => decide (x.standing = .answered)) = true)
    (hl : v.len ≤ 4096 * (v.chunk + 1)) :
    takeRead s v off data = judgeVisit s v.ctx (readAdded s v off data).sum := by
  simp only [takeRead]
  exact (if_pos h).trans (if_neg (Nat.not_lt.mpr hl))

end Answers

/-- R157: the state after the visit's record is removed and its reads are withdrawn or given up, on the answer to one. -/
def visitGivenUp (s : State) (id : Nat) : State :=
  { s with
    sweeper := { s.sweeper with visit := none }
    port := { s.port with
      q4 := []
      outstanding := (s.port.outstanding.filter fun o => decide (o.id ≠ id)).map (orphanWhere Owner.isRecheck) } }

/-- R35: a strike that leaves the count below the threshold fences nothing. -/
theorem fencedBy_below {x : Window} {f : CtxState} (h : x.state = .fenced ∨
    x.defn.all (fun d => decide (d.threshold = 0 ∨ x.strikes + 1 < d.threshold)) = true) : fencedBy x f = false := by
  rcases h with h | h
  · simp [fencedBy, h]
  · cases hd : x.defn with
    | none => simp [fencedBy, hd]
    | some d =>
      rw [hd] at h
      have hbelow : d.threshold = 0 ∨ x.strikes + 1 < d.threshold := by simpa using h
      have hno : ¬ (d.threshold ≠ 0 ∧ d.threshold ≤ min (x.strikes + 1) 255) := by omega
      simp only [fencedBy, hd, Option.any_some, decide_eq_false hno, Bool.and_false]

/-- R34: a window's entry after a strike that does not fence it. -/
theorem endedWindow_struck {x : Window} (h : fencedBy x .corrupted = false) :
    endedWindow x .corrupted = { x with
      strikes := min (x.strikes + 1) 255
      counters := { x.counters with failed := min (x.counters.failed + 1) 4294967295 } } := by
  simp [endedWindow, h, strikesAfter, CtxState.strikes]

theorem sweptOn_next (s : State) (x : Sweeper) (h : j.current ≠ j.last) : sweptOn s j x = { x with
    visit := none
    state := if j.mode = .step then .waitingStep else .running
    job := some { j with current := if j.current + 1 < bayCount s j.win then j.current + 1 else 0 } } := if_neg h

end Sys2Proof.Machine

open Sys2Proof Sys2Proof.Machine

/-- Settles O42. -/
theorem visitBeginsOrIsSkipped : Obligations.VisitBeginsOrIsSkipped := by
  intro j s hs hrun hst hj hv hw
  have hexec := execVisitBegin_begins hrun hst hj hv hw
  refine ⟨fun hbay hlast => ?_, fun hbay hn hlen => ⟨_, hexec, ?_⟩, fun c b hl hc hb hlen hn hroom =>
    ⟨fun hk => ⟨_, hexec, ?_⟩, fun hk => ⟨_, hexec, ?_⟩⟩, fun c b d n hl hc hb hd hlen => ?_⟩
  · rw [beginVisit_skips hbay, endVisit_withSweeper (by exact hj) hlast] at hexec
    exact hexec.trans (congrArg _ (Quiet.settle (Quiet.of_eq rfl rfl rfl rfl rfl) hs))
  · rw [beginVisit_skips hbay]
    exact visitOver hj hv rfl hn hlen hs.1 (able_of_room (n := 1) hrun hn hlen (by simp))
  · have hdiscard := discardVisit_none hv
    rw [beginVisit_empty hl hc hb hlen, judgeVisit_checked (by rw [hdiscard]; exact hk), hdiscard]
    exact visitOver hj hv rfl hn (by omega) hs.1 (able_of_room hrun hn hroom (by simp))
  · rw [beginVisit_empty hl hc hb hlen, judgeVisit_fails hk, discardVisit_none hv]
    exact visitFailed hc hb hj hv hn hroom hs.1 (able_of_room hrun hn hroom (by simp))
  · rw [beginVisit_reads hl hc hb hlen, handChunk_eq hb hd, chunkReads_requests] at hexec
    rw [chunk_first] at hexec
    exact hexec.trans (congrArg _ (Quiet.settle (Quiet.of_eq rfl rfl rfl rfl rfl) hs))

/-- Settles O43. -/
theorem recheckReadsAreSummed : Obligations.RecheckReadsAreSummed := by
  intro id off data m v j s hs hrun hm ho hd hv hj reads sum out
  have hexec := execRecheckReadDone_fits hm ho hd hv hrun
  have hadd : readAdded (retireIssued s id) v off data = { v with reads := reads, sum := sum } := rfl
  have hreads : (readAdded (retireIssued s id) v off data).reads = reads := rfl
  have hsum : (readAdded (retireIssued s id) v off data).sum = sum := rfl
  have hdiscard : discardVisit (retireIssued s id) = { s with
      sweeper := { s.sweeper with visit := none }
      port := { s.port with q4 := [], outstanding := out.map (orphanWhere Owner.isRecheck) } } :=
    discardVisit_some (s := retireIssued s id) hv
  have hended : Quiet s (discardVisit (retireIssued s id)) := by
    rw [hdiscard]
    exact Quiet.of_eq rfl rfl rfl rfl rfl
  have hctx : getCtx (discardVisit (retireIssued s id)) v.ctx = getCtx s v.ctx := by rw [hdiscard]; rfl
  refine ⟨fun hopen => ?_, fun hall hlen hk hlast => ?_, fun hall hlen hn hroom => ⟨fun hk => ⟨_, hexec, ?_⟩,
    fun b hk hc hb => ⟨_, hexec, ?_⟩⟩, fun b d hall hlen hb hdf => ?_⟩
  · have hall : reads.all (fun x => decide (x.standing = .answered)) = false := by
      simpa [List.all_eq_false] using hopen
    rw [takeRead_open (by rw [hreads]; exact hall)] at hexec
    exact hexec.trans (congrArg _ (Quiet.settle (Quiet.of_eq rfl rfl rfl rfl rfl) hs))
  · rw [takeRead_last (by rw [hreads]; exact hall) hlen, judgeVisit_checked (by rw [hctx]; exact hk), hdiscard,
      endVisit_withSweeper (by exact hj) hlast] at hexec
    exact hexec.trans (congrArg _ (Quiet.settle (Quiet.of_eq rfl rfl rfl rfl rfl) hs))
  · rw [takeRead_last (by rw [hreads]; exact hall) hlen, hsum, judgeVisit_checked (by rw [hctx]; exact hk), hdiscard]
    rw [hdiscard] at hended
    exact visitOver (s := { s with
      sweeper := { s.sweeper with visit := none }
      port := { s.port with q4 := [], outstanding := out.map (orphanWhere Owner.isRecheck) } }) hj rfl rfl
      (hended.nothingOwed.trans hn) (show s.report.list.length < 32 by omega) hs.1 (able_of_room hrun hn hroom (by simp))
  · rw [takeRead_last (by rw [hreads]; exact hall) hlen, hsum, judgeVisit_fails (s := retireIssued s id) hk,
      hdiscard]
    rw [hdiscard] at hended
    exact visitFailed (s := { s with
      sweeper := { s.sweeper with visit := none }
      port := { s.port with q4 := [], outstanding := out.map (orphanWhere Owner.isRecheck) } }) hc hb hj rfl
      (hended.nothingOwed.trans hn) hroom hs.1 (able_of_room hrun hn hroom (by simp))
  · rw [takeRead_chunk (by rw [hreads]; exact hall) hlen, hadd] at hexec
    generalize sum = total at hexec ⊢
    rw [handChunk_eq (s := retireIssued s id) (v := { v with reads := reads, sum := total }) hb hdf,
      chunkReads_requests] at hexec
    exact hexec.trans (congrArg _ (Quiet.settle (Quiet.of_eq rfl rfl rfl rfl rfl) hs))

/-- Settles O44. -/
theorem recheckErrorCorrupts : Obligations.RecheckErrorCorrupts := by
  intro id off m v j b s hrun hm ho hv hj hc hb hn hlen hlast hfence
  have hexec := execRecheckReadError_visit hm ho hv hrun
  rw [discardVisit_some (s := retireIssued s id) hv] at hexec
  obtain ⟨hown, -⟩ := nothingOwed_spec hn
  have hquiet : Quiet s (visitGivenUp s id) := Quiet.of_eq rfl rfl rfl rfl rfl
  have hnofence : fencedBy (getWin s b.win) .corrupted = false := fencedBy_below hfence
  have hrecords : endRecords (visitGivenUp s id) v.ctx b { state := .corrupted, cause := .readError } =
      endGroup { state := .corrupted, cause := .readError } v.ctx b (getCtx s v.ctx) := by
    rw [endRecords, fencedRecord, show getWin (visitGivenUp s id) b.win = getWin s b.win from rfl, hnofence]
    rfl
  have hpass : passRecord j { (visitGivenUp s id).sweeper with failed := (visitGivenUp s id).sweeper.failed + 1 } = [] :=
    if_neg hlast
  have hroom : hasRoom (visitGivenUp s id) 4 = true :=
    (hasRoom_congr hquiet.owed rfl 4).trans ((hasRoom_iff 4).mpr ⟨hlen, hown⟩)
  have hreports := failedVisit_reports (s := visitGivenUp s id) (b0 := s) (c := v.ctx) (b := b) (j := j) (k := .readError)
    (v := none) hc hb hj rfl (hquiet.nothingOwed.trans hn) (able_of_room hrun hn hlen (by simp))
    (by rw [hrecords, hpass]; exact hroom)
  rw [hrecords, hpass, List.append_nil] at hreports
  obtain ⟨hctxs, hwins, hsweeper⟩ := failedVisit_frame (s := visitGivenUp s id) (c := v.ctx) (b := b) (j := j) .readError none
  obtain ⟨xserial, xpool, xbuilder, xslots, xfence, xtime, xcounters, xport, xlane, xorders⟩ :=
    failedVisit_rest (s := visitGivenUp s id) (c := v.ctx) (b := b) (j := j) .readError none
  have hexec' : exec (.recheckReadError id) s =
      .next (settle s (endVisit (failVisit (visitGivenUp s id) v.ctx .readError none))) := hexec
  refine ⟨_, hexec', ?_⟩
  generalize settle s (endVisit (failVisit (visitGivenUp s id) v.ctx .readError none)) = t at hreports ⊢
  generalize sweptState (failedState (visitGivenUp s id) v.ctx b .readError none) j = x at *
  obtain ⟨⟨twins, tctxs, tserial, tpool, tbuilder, tslots, tfence⟩, ⟨ttime, tsweeper, tcounters, -⟩, -⟩ := hreports.sides
  refine ⟨tctxs.trans hctxs, twins.trans (hwins.trans ?_), hreports.reported, tsweeper.trans (hsweeper.trans ?_), ?_,
    hreports.lane.trans xlane, tserial.trans xserial, tpool.trans xpool, tbuilder.trans xbuilder, tslots.trans xslots,
    tfence.trans xfence, ttime.trans xtime, tcounters.trans xcounters, hreports.ring, ?_⟩
  · rw [show getWin (visitGivenUp s id) b.win = getWin s b.win from rfl, endedWindow_struck hnofence]
    rfl
  · exact sweptOn_next (visitGivenUp s id) _ hlast
  · rw [hreports.port, xport]
    rfl
  · rw [hreports.orders, xorders]
    rfl
end

section
/-! ## The start-up load's reads and the clears after them (R180, steps 1 and 2) -/
set_option Elab.async false
namespace Sys2Proof.Machine

variable {s : State}

/-- An OKAY load read before the last copies its bytes and awaits one fewer. -/
theorem execLoadReadDone_more {id off left : Nat} {data : List Byte} {m : MemReq} (hl : s.engine.load = .reading left)
    (hm : findIssued s id = some m) (ho : m.owner = .loadRead off) (hd : data.length = m.count) (hmore : ¬left ≤ 1) :
    execLoadReadDone id data s =
      let x := modOrders (retireIssued s id) fun o => { o with shadow := copyBytes o.shadow off data }
      .next { x with engine := { x.engine with load := .reading (left - 1) } } := by
  obtain ⟨kind, addr, count, mdata, owner⟩ := m
  cases ho
  simp only [execLoadReadDone, hl, hm]
  rw [if_pos hd, if_neg hmore]

/-- With the last load read the clears begin. -/
theorem execLoadReadDone_last {id off left : Nat} {data : List Byte} {m : MemReq} (hl : s.engine.load = .reading left)
    (hm : findIssued s id = some m) (ho : m.owner = .loadRead off) (hd : data.length = m.count) (hlast : left ≤ 1) :
    execLoadReadDone id data s =
      .next (beginClears (modOrders (retireIssued s id) fun o => { o with shadow := copyBytes o.shadow off data })) := by
  obtain ⟨kind, addr, count, mdata, owner⟩ := m
  cases ho
  simp only [execLoadReadDone, hl, hm]
  rw [if_pos hd, if_pos hlast]

/-- What the clears leave to be read: no byte of the order ring or the consumer count. -/
theorem readByte_cleared {q : List Host.Cell} (x : Nat) (h : shadowWf q = true) :
    readByte (q.filter fun c => !(inRing c.1 || inConsumer c.1)) x =
      if inRing x = true ∨ inConsumer x = true then 0 else readByte q x := by
  rw [readByte_filter (fun y => !(inRing y || inConsumer y)) x h]
  by_cases hx : inRing x = true ∨ inConsumer x = true
  · rw [if_pos hx, if_neg]
    rcases hx with hx | hx <;> simp [hx]
  · rw [if_neg hx, if_pos]
    simpa using hx

end Sys2Proof.Machine

open Sys2Proof Sys2Proof.Machine

/-- Settles O5: the two cases are the last of the 64 reads and one before it, and `readByte_copyBytes` with
`readByte_cleared` says what the shadow holds then. -/
theorem loadReadFillsTheShadow : Obligations.LoadReadFillsTheShadow := by
  unfold Obligations.LoadReadFillsTheShadow
  intro id off left data m s hl hm ho hd hwf
  by_cases hlast : left ≤ 1
  · refine ⟨_, execLoadReadDone_last hl hm ho hd hlast, fun x => ?_, rfl, ?_, ?_, ?_, rfl, rfl, rfl⟩
    · refine (readByte_cleared x (copyBytes_wf data off hwf)).trans ?_
      rw [readByte_copyBytes data off x hwf]
      simp only [hlast, true_and]
    · rw [if_pos hlast]; rfl
    · rw [if_pos hlast]; rfl
    · rw [if_pos hlast]; rfl
  · refine ⟨_, execLoadReadDone_more hl hm ho hd hlast, fun x => ?_, rfl, ?_, ?_, ?_, rfl, rfl, rfl⟩
    · rw [if_neg fun h => hlast h.1]
      exact readByte_copyBytes data off x hwf
    · rw [if_neg hlast]; rfl
    · rw [if_neg hlast]; rfl
    · rw [if_neg hlast, List.append_nil]; rfl
end

section
/-! ## The end of the start-up load (R180, steps 2 to 6) -/
set_option Elab.async false
namespace Sys2Proof.Machine

variable {s x y : State} {w : WinId} {d : WinDef} {rs : List Report}

/-! ### Window table entries (R21, R22) -/

theorem byteAt_windowEntry (s : State) (w : WinId) :
    byteAt (windowEntry s w) 0 = readByte s.orders.shadow (0x400 + 64 * w.val) := rfl

theorem takeDefinition_disabled {e : List Byte} (h : byteAt e 0 = 0) : takeDefinition e = some .disabled := if_pos h

theorem takeDefinition_ne_disabled {e : List Byte} (h : byteAt e 0 ≠ 0) : takeDefinition e ≠ some .disabled := by
  rw [takeDefinition, if_neg h]
  split <;> simp

/-- R22: what an enabled definition meets when every check passes. -/
theorem validate_none_iff : validate s w (some (.enabled d)) = none ↔
    rangeOk d = true ∧ rangesMeet d.base.toNat d.regionEnd (pageBase s) (pageBase s + Config.pageSize) = false ∧
    (∀ v, v ≠ w → overlapsWindow d (getWin s v) = false) ∧
    (d.autoOpen && weakKey (reduce d.defaultKey.toNat)) = false := by
  have hany : overlapsAny s w d = false ↔
      rangesMeet d.base.toNat d.regionEnd (pageBase s) (pageBase s + Config.pageSize) = false ∧
      ∀ v, v ≠ w → overlapsWindow d (getWin s v) = false := by
    simp only [overlapsAny, Bool.or_eq_false_iff, List.any_eq_false, Bool.and_eq_true, decide_eq_true_eq, not_and,
      Bool.not_eq_true]
    exact and_congr_right fun _ => ⟨fun h v => h v (mem_allWins v), fun h v _ => h v⟩
  rw [← and_assoc (a := rangesMeet _ _ _ _ = false), ← hany]
  cases hr : rangeOk d <;> cases ho : overlapsAny s w d <;>
    cases hk : d.autoOpen && weakKey (reduce d.defaultKey.toNat) <;> simp [validate, hr, ho, hk]

theorem validate_congr (hw : y.windows = x.windows) (hp : y.engine.cpb = x.engine.cpb) (t : Option TakenDef) :
    validate y w t = validate x w t := by
  cases t with
  | none => rfl
  | some t =>
    cases t with
    | disabled => rfl
    | enabled d =>
      simp only [validate, overlapsAny, getWin_congr hw, pageBase, hp]
      rfl

theorem overlapsWindow_initial (d : WinDef) : overlapsWindow d Window.initial = false := rfl

theorem overlapsWindow_applied (d e : WinDef) :
    overlapsWindow d (appliedEntry Window.initial (.enabled e)) =
      rangesMeet d.base.toNat d.regionEnd e.base.toNat e.regionEnd := Bool.or_false _

/-! ### One entry of the load (R180, step 4) -/

theorem loadWindow_disabled {z : State × List Report} (h : takeDefinition (windowEntry z.1 w) = some .disabled) :
    loadWindow z w = z := by
  simp only [loadWindow, h]

theorem loadWindow_refused {z : State × List Report} (hd : takeDefinition (windowEntry z.1 w) ≠ some .disabled)
    (hv : validate z.1 w (takeDefinition (windowEntry z.1 w)) ≠ none) :
    ∃ r, loadWindow z w = (z.1, z.2 ++ [.windowApplied w .off r]) := by
  unfold loadWindow
  dsimp only
  split
  next h => exact absurd h hd
  next h => exact absurd h hv
  next r _ _ => exact ⟨some r, rfl⟩
  next r _ => exact ⟨_, rfl⟩

theorem loadWindow_applied {z : State × List Report} (hd : takeDefinition (windowEntry z.1 w) = some (.enabled d))
    (hv : validate z.1 w (some (.enabled d)) = none) (hj : z.1.sweeper.job = none) :
    loadWindow z w = (setWin z.1 w (appliedEntry (getWin z.1 w) (.enabled d)), z.2 ++ [.windowApplied w .active none]) := by
  have happly : applyDef z.1 w (.enabled d) = setWin z.1 w (appliedEntry (getWin z.1 w) (.enabled d)) := by
    simp only [applyDef, stopSweepOf, modWin_sweeper, hj]
    rfl
  rw [← happly]
  simp only [loadWindow, hd, hv]

/-- What the load has made of a window's entry, judged among the windows as they are. -/
def EntryLoaded (y : State) (w : WinId) : Prop :=
  if readByte y.orders.shadow (0x400 + 64 * w.val) = 0 then getWin y w = Window.initial
  else if validate y w (takeDefinition (windowEntry y w)) = none then
    ∃ d, takeDefinition (windowEntry y w) = some (.enabled d) ∧ getWin y w = appliedEntry Window.initial (.enabled d)
  else getWin y w = Window.initial

theorem EntryLoaded.owes (h : EntryLoaded y w) : (getWin y w).owes = (false, false) := by
  unfold EntryLoaded at h
  split at h
  · rw [h]; rfl
  · split at h
    · obtain ⟨d, -, hw⟩ := h
      rw [hw]; rfl
    · rw [h]; rfl

/-- A valid definition of another window, applied since, leaves the standing of an entry: the definition has been
checked against the entry's own region. -/
theorem EntryLoaded.other {v : WinId} (h : EntryLoaded x v) (hne : v ≠ w) (hw : getWin x w = Window.initial)
    (hv : validate x w (some (.enabled d)) = none) :
    EntryLoaded (setWin x w (appliedEntry Window.initial (.enabled d))) v := by
  have hget : ∀ u, getWin (setWin x w (appliedEntry Window.initial (.enabled d))) u =
      if w = u then appliedEntry Window.initial (.enabled d) else getWin x u := fun u => getWin_setWin x w u _
  have hkeep : getWin (setWin x w (appliedEntry Window.initial (.enabled d))) v = getWin x v := by
    rw [hget, if_neg (Ne.symm hne)]
  unfold EntryLoaded at h ⊢
  rw [hkeep]
  by_cases hbyte : readByte x.orders.shadow (0x400 + 64 * v.val) = 0
  · rw [if_pos hbyte] at h
    exact (if_pos hbyte).symm ▸ h
  · rw [if_neg hbyte] at h
    refine (if_neg hbyte).symm ▸ ?_
    by_cases hx : validate x v (takeDefinition (windowEntry x v)) = none
    · rw [if_pos hx] at h
      obtain ⟨e, he, hwin⟩ := h
      rw [if_pos, hwin]
      · exact ⟨e, he, rfl⟩
      · rw [he, validate_none_iff] at hx
        obtain ⟨hrange, hpage, happ, hkey⟩ := hx
        refine (congrArg (validate _ v) he).trans (validate_none_iff.mpr ⟨hrange, hpage, fun u hu => ?_, hkey⟩)
        rw [hget]
        split
        · have hmeet := (validate_none_iff.mp hv).2.2.1 v hne
          rw [hwin, overlapsWindow_applied] at hmeet
          rw [overlapsWindow_applied, rangesMeet_comm]
          exact hmeet
        · exact happ u hu
    · rw [if_neg hx] at h
      rw [if_neg, h]
      intro hy
      refine hx ?_
      cases ht : takeDefinition (windowEntry x v) with
      | none =>
        rw [show takeDefinition (windowEntry (setWin x w _) v) = none from ht] at hy
        cases hy
      | some t =>
        cases t with
        | disabled => rfl
        | enabled e =>
          rw [show takeDefinition (windowEntry (setWin x w _) v) = some (.enabled e) from ht, validate_none_iff] at hy
          obtain ⟨hrange, hpage, happ, hkey⟩ := hy
          refine validate_none_iff.mpr ⟨hrange, hpage, fun u hu => ?_, hkey⟩
          by_cases hu' : w = u
          · rw [← hu', hw, overlapsWindow_initial]
          · have := happ u hu
            rwa [hget, if_neg hu'] at this

/-- R180, step 4: a window's entry in the table is enabled. -/
def entryEnabled (b : State) (w : WinId) : Bool := decide (readByte b.orders.shadow (0x400 + 64 * w.val) ≠ 0)

theorem entryEnabled_filter {b : State} (h : readByte b.orders.shadow (0x400 + 64 * w.val) ≠ 0) :
    [w].filter (entryEnabled b) = [w] := List.filter_cons_of_pos (decide_eq_true h)

/-- The load after some windows: their entries, and the records of the enabled ones. -/
structure Loaded (b : State) (done : List WinId) (z : State × List Report) : Prop where
  frame : z.1 = { b with windows := z.1.windows }
  fresh : ∀ w, w ∉ done → getWin z.1 w = Window.initial
  entry : ∀ w ∈ done, EntryLoaded z.1 w
  reports : z.2.map appliedWindow = (done.filter (entryEnabled b)).map fun w => some (w, (getWin z.1 w).state)

/-- A window whose entry changes nothing of the table. -/
theorem Loaded.unchanged {b : State} {done : List WinId} {z : State × List Report} {rs : List Report}
    (h : Loaded b done z) (he : EntryLoaded z.1 w)
    (hr : rs.map appliedWindow = ([w].filter (entryEnabled b)).map fun w => some (w, (getWin z.1 w).state)) :
    Loaded b (done ++ [w]) (z.1, z.2 ++ rs) where
  frame := h.frame
  fresh v hv := h.fresh v fun hd => hv (List.mem_append_left _ hd)
  entry v hv := by
    rcases List.mem_append.mp hv with hv | hv
    · exact h.entry v hv
    · rw [List.mem_singleton.mp hv]
      exact he
  reports := by rw [List.map_append, h.reports, hr, List.filter_append, List.map_append]

theorem Loaded.step {b : State} {done : List WinId} {z : State × List Report} (h : Loaded b done z) (hw : w ∉ done)
    (hj : b.sweeper.job = none) : Loaded b (done ++ [w]) (loadWindow z w) := by
  have horders : z.1.orders = b.orders := by rw [h.frame]
  have hinit := h.fresh w hw
  by_cases hbyte : readByte b.orders.shadow (0x400 + 64 * w.val) = 0
  · rw [loadWindow_disabled (takeDefinition_disabled (by rw [byteAt_windowEntry, horders]; exact hbyte))]
    have hu := h.unchanged (w := w) (rs := []) (by unfold EntryLoaded; rw [horders, if_pos hbyte]; exact hinit)
      (by simp [entryEnabled, hbyte])
    rwa [List.append_nil] at hu
  · have hdef : takeDefinition (windowEntry z.1 w) ≠ some .disabled :=
      takeDefinition_ne_disabled (by rw [byteAt_windowEntry, horders]; exact hbyte)
    by_cases hv : validate z.1 w (takeDefinition (windowEntry z.1 w)) = none
    · obtain ⟨d, hd⟩ : ∃ d, takeDefinition (windowEntry z.1 w) = some (.enabled d) := by
        cases ht : takeDefinition (windowEntry z.1 w) with
        | none => rw [ht] at hv; cases hv
        | some t =>
          cases t with
          | disabled => exact absurd ht hdef
          | enabled d => exact ⟨d, rfl⟩
      rw [hd] at hv
      have hjz : z.1.sweeper.job = none := by rw [h.frame]; exact hj
      rw [loadWindow_applied hd hv hjz, hinit]
      have hget : ∀ u, getWin (setWin z.1 w (appliedEntry Window.initial (.enabled d))) u =
          if w = u then appliedEntry Window.initial (.enabled d) else getWin z.1 u := fun u => getWin_setWin z.1 w u _
      refine
        { frame := ?_
          fresh := fun v hv' => ?_
          entry := fun v hv' => ?_
          reports := ?_ }
      · exact congrArg (fun q : State => setWin q w (appliedEntry Window.initial (.enabled d))) h.frame
      · rw [hget, if_neg fun e => hv' (List.mem_append_right _ (List.mem_singleton.mpr e.symm))]
        exact h.fresh v fun hd => hv' (List.mem_append_left _ hd)
      · by_cases hvw : v = w
        · subst hvw
          unfold EntryLoaded
          rw [if_neg (by rw [setWin_orders, horders]; exact hbyte), if_pos, hget, if_pos rfl]
          · exact ⟨d, hd, rfl⟩
          · obtain ⟨hrange, hpage, happ, hkey⟩ := validate_none_iff.mp hv
            refine (congrArg (validate _ v) hd).trans (validate_none_iff.mpr ⟨hrange, hpage, fun u hu => ?_, hkey⟩)
            rw [hget, if_neg (Ne.symm hu)]
            exact happ u hu
        · refine (h.entry v ?_).other hvw hinit hv
          exact (List.mem_append.mp hv').resolve_right fun e => hvw (List.mem_singleton.mp e)
      · have hsame : (done.filter (entryEnabled b)).map
            (fun u => some (u, (getWin (setWin z.1 w (appliedEntry Window.initial (.enabled d))) u).state)) =
            z.2.map appliedWindow := by
          rw [h.reports]
          refine List.map_congr_left fun u hu => ?_
          rw [hget, if_neg]
          rintro rfl
          exact hw (List.mem_filter.mp hu).1
        dsimp only
        rw [List.filter_append, List.map_append, List.map_append, hsame, entryEnabled_filter hbyte, List.map_singleton,
           List.map_singleton, hget, if_pos rfl]
        rfl
    · obtain ⟨r, hr⟩ := loadWindow_refused hdef hv
      rw [hr]
      refine h.unchanged ?_ ?_
      · unfold EntryLoaded
        rw [horders, if_neg hbyte, if_neg hv]
        exact hinit
      · rw [entryEnabled_filter hbyte, List.map_singleton, List.map_singleton, hinit]
        rfl

/-- R180, step 4: the load of a list of different windows. -/
theorem Loaded.fold {b : State} (ws done : List WinId) {z : State × List Report} (h : Loaded b done z)
    (hn : (done ++ ws).Nodup) (hj : b.sweeper.job = none) : Loaded b (done ++ ws) (ws.foldl loadWindow z) := by
  induction ws generalizing done z with
  | nil => rw [List.append_nil]; exact h
  | cons w ws ih =>
    have hw : w ∉ done := fun hd => (List.nodup_append.mp hn).2.2 w hd w List.mem_cons_self rfl
    rw [List.foldl_cons, List.append_cons]
    exact ih (done ++ [w]) (h.step hw hj) (by rwa [List.append_cons] at hn)

theorem loaded_allWins (hi : ∀ w, getWin x w = Window.initial) (hj : x.sweeper.job = none) :
    Loaded x allWins (allWins.foldl loadWindow (x, [])) :=
  Loaded.fold allWins [] ⟨rfl, fun w _ => hi w, fun _ hw => absurd hw List.not_mem_nil, rfl⟩ (List.nodup_finRange 16) hj

theorem activeWindows_eq (s : State) :
    activeWindows s = (allWins.filter fun w => decide ((getWin s w).state = .active)).length := by
  have hlist : s.windows.toList = allWins.map (getWin s) := by
    refine List.ext_getElem (by simp [allWins]) fun i hi hj => ?_
    simp [allWins, getWin]
  rw [activeWindows, hlist, List.filter_map, List.length_map]
  rfl

/-! ### The clears' answers (R180, step 2) -/

theorem execLoadClearDone_more {id left : Nat} {m : MemReq} (hl : s.engine.load = .clearing left)
    (hm : findIssued s id = some m) (ho : m.owner = .loadClear) (h : ¬left ≤ 1) :
    execLoadClearDone id s =
      .next { retireIssued s id with engine := { s.engine with load := .clearing (left - 1) } } := by
  obtain ⟨kind, addr, count, mdata, owner⟩ := m
  cases ho
  simp only [execLoadClearDone, hl, hm]
  rw [if_neg h]
  rfl

theorem execLoadClearDone_last {id left : Nat} {m : MemReq} (hl : s.engine.load = .clearing left)
    (hm : findIssued s id = some m) (ho : m.owner = .loadClear) (h : left ≤ 1) :
    execLoadClearDone id s = .next (settle s (finishLoad (retireIssued s id))) := by
  obtain ⟨kind, addr, count, mdata, owner⟩ := m
  cases ho
  simp only [execLoadClearDone, hl, hm]
  rw [if_pos h]

/-- The state at the end of the load, with these windows and these records of the enabled entries. -/
def startedState (s : State) (ws : Vector Window 16) (rs : List Report) : State :=
  let x := { takeSettings s with windows := ws }
  runEngine (build x (.startup s.engine.cpb (activeWindows x) :: rs))

theorem finishLoad_started (hi : ∀ w, getWin s w = Window.initial) (hj : s.sweeper.job = none) :
    ∃ ws rs, finishLoad s = startedState s ws rs ∧ Loaded (takeSettings s) allWins ({ takeSettings s with windows := ws }, rs) := by
  have h : Loaded (takeSettings s) allWins (allWins.foldl loadWindow (takeSettings s, [])) := loaded_allWins hi hj
  have heq : finishLoad s =
      let z := allWins.foldl loadWindow (takeSettings s, [])
      runEngine (build z.1 (.startup s.engine.cpb (activeWindows z.1) :: z.2)) := rfl
  rw [heq]
  generalize allWins.foldl loadWindow (takeSettings s, []) = z at h ⊢
  obtain ⟨x, rs⟩ := z
  have hx : x = { takeSettings s with windows := x.windows } := h.frame
  refine ⟨x.windows, rs, ?_, ?_⟩
  · rw [startedState, ← hx]
  · rw [← hx]
    exact h

theorem startedState_reported (hl : s.report.list = []) (hf : s.report.inFlight = none)
    (hd : s.orders.waitingDone = none) (ws : Vector Window 16) (rs : List Report) :
    reported (startedState s ws rs) =
      .startup s.engine.cpb (activeWindows { takeSettings s with windows := ws }) :: rs := by
  have hb := reported_build (x := { takeSettings s with windows := ws })
    (.startup s.engine.cpb (activeWindows { takeSettings s with windows := ws }) :: rs) hd
  have hnone : reported { takeSettings s with windows := ws } = [] := by
    have he : reported { takeSettings s with windows := ws } = reported s := rfl
    rw [he, reported, hl, hf, hd]
    rfl
  rw [hnone, List.nil_append] at hb
  exact hb

theorem startedState_nothingOwed (hn : nothingOwed s = true) {ws : Vector Window 16} {rs : List Report}
    (h : Loaded (takeSettings s) allWins ({ takeSettings s with windows := ws }, rs)) :
    anyOwed (startedState s ws rs) = false := by
  obtain ⟨-, hctx, hsweep⟩ := (anyOwed_eq_false_iff s).mp (nothingOwed_spec hn).1
  refine (anyOwed_eq_false_iff _).mpr ⟨fun w => ?_, fun c => ?_, ?_⟩
  · exact (congrArg Window.owes (getWin_congr (s := { takeSettings s with windows := ws }) rfl w)).trans
      (h.entry w (mem_allWins w)).owes
  · exact (congrArg Context.owed (getCtx_congr (s := s) rfl c)).trans (hctx c)
  · exact hsweep

/-- The entry of a window as the load has left it, judged in any state with its windows, page and shadow. -/
theorem EntryLoaded.spec (h : EntryLoaded x w) (hw : y.windows = x.windows) (hc : y.engine.cpb = x.engine.cpb)
    (hs : s.orders.shadow = x.orders.shadow) :
    if readByte s.orders.shadow (0x400 + 64 * w.val) = 0 then getWin y w = Window.initial
    else if validate y w (takeDefinition (windowEntry s w)) = none then
      (getWin y w).state = .active ∧ (getWin y w).defn.map .enabled = takeDefinition (windowEntry s w) ∧
        (getWin y w).staged = none ∧ (getWin y w).strikes = 0 ∧ (getWin y w).counters = WinCounters.zero
    else getWin y w = Window.initial := by
  have hentry : windowEntry s w = windowEntry x w := by rw [windowEntry, windowEntry, hs]
  rw [hs, hentry, getWin_congr hw, validate_congr hw hc]
  unfold EntryLoaded at h
  split
  next hb => rwa [if_pos hb] at h
  next hb =>
    rw [if_neg hb] at h
    split
    next hv =>
      rw [if_pos hv] at h
      obtain ⟨d, hd, hwin⟩ := h
      rw [hwin, hd]
      exact ⟨rfl, rfl, rfl, rfl, rfl⟩
    next hv => rwa [if_neg hv] at h

end Sys2Proof.Machine

open Sys2Proof Sys2Proof.Machine

/-- Settles O6: `Loaded` is the invariant of the entries' fold, and `EntryLoaded.other` why an entry's standing at its
turn is its standing at the end; the close adds no record, as nothing is owed. -/
theorem lastClearStartsTheEngine : Obligations.LastClearStartsTheEngine := by
  unfold Obligations.LastClearStartsTheEngine
  intro id left m s hl hm ho
  refine ⟨fun h => execLoadClearDone_more hl hm ho (Nat.not_le.mpr h), fun h hst hlist hflight hi hj hn => ?_⟩
  obtain ⟨ws, rs, hfin, hload⟩ := finishLoad_started (s := retireIssued s id) hi hj
  have hd : s.orders.waitingDone = none := (nothingOwed_spec hn).2
  have howed : anyOwed (startedState (retireIssued s id) ws rs) = false :=
    startedState_nothingOwed (s := retireIssued s id) hn hload
  have hexec : exec (.loadClearDone id) s = .next (settle s (startedState (retireIssued s id) ws rs)) :=
    (execLoadClearDone_last hl hm ho h).trans (congrArg _ (congrArg _ hfin))
  have hc := settle_closed s howed fun hs => by
    rw [show (startedState (retireIssued s id) ws rs).orders.waitingDone = none from hd] at hs
    cases hs
  have hrep := startedState_reported (s := retireIssued s id) hlist hflight hd ws rs
  generalize settle s (startedState (retireIssued s id) ws rs) = t at hexec hc
  have htrack := hc.track
  have hclock := hc.clock
  have hring := hc.ring
  simp only [trackSide, clockSide, ringSide, Prod.mk.injEq] at htrack hclock hring
  obtain ⟨hwins, hctxs, -⟩ := htrack
  obtain ⟨htime, -⟩ := hclock
  obtain ⟨⟨-, -, -, hattn⟩, -⟩ := hring
  have hshadow : t.orders.shadow = s.orders.shadow := by rw [hc.orders]; rfl
  have hget : ∀ w, getWin t w = getWin { takeSettings (retireIssued s id) with windows := ws } w :=
    getWin_congr hwins
  have hrep' : reported t = _ := hc.reported.trans hrep
  refine ⟨t, hexec, hc.engine, htime, ?_, fun w => ?_, ?_, ?_, hshadow, ?_, ?_, hctxs, hc.lane⟩
  · rw [hattn]
    exact build_side ReportUnit.attnEnable (fun _ _ _ => rfl) _
  · exact (hload.entry w (mem_allWins w)).spec hwins (by rw [hc.engine]; rfl) rfl
  · rw [hrep', activeWindows_eq, List.head?_cons]
    simp only [hget]
    rfl
  · rw [hrep', List.tail_cons, hload.reports]
    simp only [hget]
    rfl
  · rw [hc.orders]; rfl
  · rw [hc.orders]; rfl
end

section
/-! ## The records' way into the ring, and the granting of room (R170, R171) -/
set_option Elab.async false
namespace Sys2Proof.Machine

variable {s t x y : State} {w : WinId} {c : CtxId} {i : OwedItem}

/-! ### What is owed, owner by owner (R170) -/

/-- What a window's entry owes. -/
def windowGroups (w : WinId) (x : Window) : List (List Report) :=
  (if x.owedApplied then [[Report.windowApplied w (if x.defn.isSome then .active else .off) none]] else []) ++
    (if x.owedFenced then [[Report.windowFenced w x.strikes]] else [])

/-- What a context owes. -/
def contextGroups (c : CtxId) (x : Context) : List (List Report) :=
  (owedFinals x).map fun f => x.binding.elim [] fun b => endGroup f c b x

theorem owedGroups_eq (s : State) : owedGroups s =
    allWins.flatMap (fun w => windowGroups w (getWin s w)) ++ allCtxs.flatMap (fun c => contextGroups c (getCtx s c)) ++
      s.sweeper.waiting.map (fun r => [r]) ++ s.orders.waitingDone.toList.map fun r => [r] := rfl

theorem owedGroups_congr (hw : y.windows = x.windows) (hc : y.ctxs = x.ctxs)
    (hs : y.sweeper.waiting = x.sweeper.waiting) (hd : y.orders.waitingDone = x.orders.waitingDone) :
    owedGroups y = owedGroups x := by
  simp only [owedGroups_eq, getWin_congr hw, getCtx_congr hc, hs, hd]

theorem windowGroups_applied {x : Window} (h : x.owedApplied = true) :
    windowGroups w x = [.windowApplied w (if x.defn.isSome then .active else .off) none] ::
      windowGroups w { x with owedApplied := false } := by
  simp [windowGroups, h]

theorem windowGroups_fenced {x : Window} (h : x.owedApplied = false) (hf : x.owedFenced = true) :
    windowGroups w x = [.windowFenced w x.strikes] :: windowGroups w { x with owedFenced := false } := by
  simp [windowGroups, h, hf]

theorem windowGroups_none {x : Window} (h : x.owedApplied = false) (hf : x.owedFenced = false) : windowGroups w x = [] := by
  simp [windowGroups, h, hf]

theorem contextGroups_none {x : Context} (h : x.owed = 0) : contextGroups c x = [] := by
  simp [contextGroups, owedFinals, h]

/-- R62: a context's oldest owed report is that of `owedFinal`, and the rest is what it owes with one owed report less. -/
theorem owedFinals_first {x : Context} {f : FinalRec} (h : x.owed ≠ 0) (hf : x.first = some f) :
    ∃ g, owedFinal x = some g ∧ owedFinals x = g :: owedFinals { x with owed := x.owed - 1 } := by
  obtain ⟨n, hn⟩ := Nat.exists_eq_succ_of_ne_zero h
  cases n with
  | zero => cases hs : x.second <;> simp [owedFinal, owedFinals, hn, hf, hs]
  | succ n => exact ⟨f, by simp [owedFinal, hn, hf], by simp [owedFinals, hn, hf, List.replicate_succ]⟩

theorem contextGroups_first {x : Context} {g : FinalRec} {b : Binding} (hb : x.binding = some b)
    (h : owedFinals x = g :: owedFinals { x with owed := x.owed - 1 }) :
    contextGroups c x = endGroup g c b x :: contextGroups c { x with owed := x.owed - 1 } := by
  rw [contextGroups, contextGroups, h, List.map_cons, hb]
  rfl

/-- One owner's list loses its first item, and those before it have none. -/
theorem flatMap_loses {α β : Type} {l l₁ l₂ : List α} {a : α} {b : β} {g g' : α → List β} (hl : l = l₁ ++ a :: l₂)
    (hn : l.Nodup) (hpre : ∀ x ∈ l₁, g x = []) (ha : g a = b :: g' a) (hne : ∀ x, x ≠ a → g' x = g x) :
    l.flatMap g = b :: l.flatMap g' := by
  subst hl
  obtain ⟨-, ha₂, hdis⟩ := List.nodup_append.mp hn
  have h₁ : l₁.flatMap g = [] := List.flatMap_eq_nil_iff.mpr hpre
  have h₁' : l₁.flatMap g' = [] := List.flatMap_eq_nil_iff.mpr fun x hx => by
    rw [hne x (hdis x hx a List.mem_cons_self)]
    exact hpre x hx
  have h₂ : l₂.flatMap g' = l₂.flatMap g := List.flatMap_congr fun x hx => hne x fun e =>
    (List.nodup_cons.mp ha₂).1 (e ▸ hx)
  rw [List.flatMap_append, List.flatMap_append, List.flatMap_cons, List.flatMap_cons, h₁, h₁', h₂, ha]
  rfl

theorem flatMap_windowGroups_nil (h : allWins.findSome? (owedOfWindow s) = none) :
    allWins.flatMap (fun w => windowGroups w (getWin s w)) = [] := by
  refine List.flatMap_eq_nil_iff.mpr fun w hw => ?_
  have hnone := List.findSome?_eq_none_iff.mp h w hw
  unfold owedOfWindow at hnone
  split at hnone
  · cases hnone
  next ha =>
    split at hnone
    · cases hnone
    next hf => exact windowGroups_none (by simpa using ha) (by simpa using hf)

theorem flatMap_contextGroups_nil (h : (allCtxs.find? fun c => decide (0 < (getCtx s c).owed)) = none) :
    allCtxs.flatMap (fun c => contextGroups c (getCtx s c)) = [] :=
  List.flatMap_eq_nil_iff.mpr fun c hc => contextGroups_none (by simpa using List.find?_eq_none.mp h c hc)

theorem owedGroups_nil (h : firstOwed s = none) : owedGroups s = [] := by
  unfold firstOwed at h
  split at h
  · cases h
  next hw =>
    split at h
    · cases h
    next hc =>
      split at h
      · cases h
      next hs =>
        rw [owedGroups_eq, flatMap_windowGroups_nil hw, flatMap_contextGroups_nil hc, hs, Option.map_eq_none_iff.mp h]
        rfl

/-- The granting of an item: the first group enters the list, and the others are still owed. -/
structure Granted (s : State) (i : OwedItem) (g : List Report) : Prop where
  groups : owedGroups s = g :: owedGroups (grantItem s i)
  size : g.length = i.size
  report : (grantItem s i).report = appendRecords s.report g

theorem granted_window (h : allWins.findSome? (owedOfWindow s) = some i) : ∃ g, Granted s i g := by
  obtain ⟨l₁, w, l₂, hl, hw, hpre⟩ := List.findSome?_eq_some_iff.mp h
  have hnone : ∀ v ∈ l₁, windowGroups v (getWin s v) = [] := fun v hv => by
    have hv := hpre v hv
    unfold owedOfWindow at hv
    split at hv
    · cases hv
    next ha =>
      split at hv
      · cases hv
      next hf => exact windowGroups_none (by simpa using ha) (by simpa using hf)
  have hlose : ∀ {g : List Report} {f : Window → Window} {rs : List Report},
      windowGroups w (getWin s w) = g :: windowGroups w (f (getWin s w)) →
      owedGroups s = g :: owedGroups (modWin (build s rs) w f) := fun {g f rs} hg => by
    have hget : ∀ v, getWin (modWin (build s rs) w f) v = if w = v then f (getWin s w) else getWin s v :=
      fun v => getWin_modWin (build s rs) w v f
    have hflat := flatMap_loses (g := fun v => windowGroups v (getWin s v))
      (g' := fun v => windowGroups v (getWin (modWin (build s rs) w f) v)) (b := g) hl (List.nodup_finRange 16) hnone
      (by rw [hget, if_pos rfl]; exact hg) fun v hv => by rw [hget, if_neg (Ne.symm hv)]
    rw [owedGroups_eq, hflat]
    rfl
  unfold owedOfWindow at hw
  split at hw
  next ha =>
    cases hw
    exact ⟨_, hlose (windowGroups_applied ha), rfl, rfl⟩
  next ha =>
    split at hw
    next hf =>
      cases hw
      exact ⟨_, hlose (windowGroups_fenced (by simpa using ha) hf), rfl, rfl⟩
    · cases hw

theorem granted_transfer (hb : ContextsBound s) (hw : allWins.findSome? (owedOfWindow s) = none)
    (h : (allCtxs.find? fun c => decide (0 < (getCtx s c).owed)) = some c) : ∃ g, Granted s (.transfer c) g := by
  obtain ⟨hc, l₁, l₂, hl, hpre⟩ := List.find?_eq_some_iff_append.mp h
  have howed : (getCtx s c).owed ≠ 0 := Nat.pos_iff_ne_zero.mp (of_decide_eq_true hc)
  obtain ⟨hbound, hfirst⟩ := (hb c).2.2 howed
  obtain ⟨b, hbind⟩ := Option.isSome_iff_exists.mp hbound
  obtain ⟨f, hf⟩ := Option.isSome_iff_exists.mp hfirst
  obtain ⟨g, hg, hfinals⟩ := owedFinals_first howed hf
  have hitem : grantItem s (.transfer c) =
      modCtx (build s (endGroup g c b (getCtx s c))) c fun cx => { cx with owed := cx.owed - 1 } := by
    simp only [grantItem, hg, transferGroup, hbind]
    rfl
  have hget : ∀ k, getCtx (grantItem s (.transfer c)) k =
      if c = k then { getCtx s c with owed := (getCtx s c).owed - 1 } else getCtx s k := fun k => by
    rw [hitem]
    exact getCtx_setCtx (build s (endGroup g c b (getCtx s c))) c k _
  have hflat := flatMap_loses (g := fun k => contextGroups k (getCtx s k))
    (g' := fun k => contextGroups k (getCtx (grantItem s (.transfer c)) k)) (b := endGroup g c b (getCtx s c)) hl
    (List.nodup_finRange 256) (fun k hk => contextGroups_none (by simpa using hpre k hk))
    (by rw [hget, if_pos rfl]; exact contextGroups_first hbind hfinals)
    fun k hk => by rw [hget, if_neg (Ne.symm hk)]
  refine ⟨endGroup g c b (getCtx s c), ?_, rfl, by rw [hitem]; rfl⟩
  have hwins : (grantItem s (.transfer c)).windows = s.windows := by rw [hitem]; rfl
  have hsweep : (grantItem s (.transfer c)).sweeper = s.sweeper := by rw [hitem]; rfl
  have hord : (grantItem s (.transfer c)).orders = s.orders := by rw [hitem]; rfl
  rw [owedGroups_eq, owedGroups_eq, flatMap_windowGroups_nil hw, hflat, hsweep, hord]
  simp only [getWin_congr hwins]
  rw [flatMap_windowGroups_nil hw]
  rfl

theorem granted_sweeper {r : Report} {rest : List Report} (hw : allWins.findSome? (owedOfWindow s) = none)
    (hc : (allCtxs.find? fun c => decide (0 < (getCtx s c).owed)) = none) (hs : s.sweeper.waiting = r :: rest) :
    Granted s (.sweeper r) [r] where
  groups := by
    have htail : (grantItem s (.sweeper r)).sweeper.waiting = rest := congrArg List.tail hs
    have hwins := flatMap_windowGroups_nil hw
    have hctxs := flatMap_contextGroups_nil hc
    rw [owedGroups_eq, owedGroups_eq, htail, hs, hwins, hctxs]
    refine congrArg ([r] :: ·) ?_
    rw [show (fun w => windowGroups w (getWin (grantItem s (.sweeper r)) w)) = fun w => windowGroups w (getWin s w) from rfl,
      show (fun c => contextGroups c (getCtx (grantItem s (.sweeper r)) c)) = fun c => contextGroups c (getCtx s c) from rfl,
      hwins, hctxs]
    rfl
  size := rfl
  report := rfl

theorem granted_orderDone {r : Report} (hw : allWins.findSome? (owedOfWindow s) = none)
    (hc : (allCtxs.find? fun c => decide (0 < (getCtx s c).owed)) = none) (hs : s.sweeper.waiting = [])
    (hd : s.orders.waitingDone = some r) : Granted s (.orderDone r) [r] where
  groups := by
    have hwins := flatMap_windowGroups_nil hw
    have hctxs := flatMap_contextGroups_nil hc
    have hrest : (grantItem s (.orderDone r)).sweeper.waiting = [] := hs
    rw [owedGroups_eq, owedGroups_eq, hrest, hs, hd, hwins, hctxs]
    refine congrArg ([r] :: ·) ?_
    rw [show (fun w => windowGroups w (getWin (grantItem s (.orderDone r)) w)) = fun w => windowGroups w (getWin s w) from rfl,
      show (fun c => contextGroups c (getCtx (grantItem s (.orderDone r)) c)) = fun c => contextGroups c (getCtx s c) from rfl,
      hwins, hctxs]
    rfl
  size := rfl
  report := rfl

/-- R170: the model's first owed item is the first of what is owed. -/
theorem granted_first (hb : ContextsBound s) (h : firstOwed s = some i) : ∃ g, Granted s i g := by
  unfold firstOwed at h
  split at h
  next hw => cases h; exact granted_window hw
  next hw =>
    split at h
    next hc => cases h; exact granted_transfer hb hw hc
    next hc =>
      split at h
      next hs => cases h; exact ⟨_, granted_sweeper hw hc hs⟩
      next hs =>
        obtain ⟨r, hd, rfl⟩ := Option.map_eq_some_iff.mp h
        exact ⟨_, granted_orderDone hw hc hs hd⟩

/-! ### The granting of room (R170) -/

theorem appendRecords_append (u : ReportUnit) (rs rs' : List Report) :
    appendRecords u (rs ++ rs') = appendRecords (appendRecords u rs) rs' := by
  induction rs generalizing u with
  | nil => rfl
  | cons r rest ih => exact ih _

theorem appendRecords_prefix (u : ReportUnit) (rs : List Report) : u.list <+: (appendRecords u rs).list := by
  induction rs generalizing u with
  | nil => exact List.prefix_refl _
  | cons r rest ih =>
    exact (List.prefix_append u.list [{ seq := u.seq, body := r }]).trans
      (ih { u with list := u.list ++ [{ seq := u.seq, body := r }], seq := u.seq + 1 })

theorem OwedItem.size_pos (i : OwedItem) : 1 ≤ i.size := by cases i <;> simp [OwedItem.size]

/-- What the granting of room leaves of a window's entry and of a context. -/
def Window.unowed (x : Window) : Window := { x with owedApplied := false, owedFenced := false }

def Context.unowed (x : Context) : Context := { x with owed := 0 }

theorem Window.eq_of_unowed {x y : Window} (h : y.unowed = x.unowed) :
    y = { x with owedApplied := y.owedApplied, owedFenced := y.owedFenced } :=
  congrArg (fun z : Window => { z with owedApplied := y.owedApplied, owedFenced := y.owedFenced }) h

theorem Context.eq_of_unowed {x y : Context} (h : y.unowed = x.unowed) : y = { x with owed := y.owed } :=
  congrArg (fun z : Context => { z with owed := y.owed }) h

/-- What is granted room changes only what is owed, the pending list and the numbers of the records. -/
structure OnlyGrants (s t : State) : Prop where
  engine : t.engine = s.engine
  port : t.port = s.port
  lane : laneSide t = laneSide s
  win : ∀ w, (getWin t w).unowed = (getWin s w).unowed
  ctx : ∀ c, (getCtx t c).unowed = (getCtx s c).unowed
  track : (t.serial, t.pool, t.builder, t.slots, t.fence) = (s.serial, s.pool, s.builder, s.slots, s.fence)
  rest : (t.time, t.counters, t.choices, t.pending) = (s.time, s.counters, s.choices, s.pending)
  sweeper : t.sweeper = { s.sweeper with waiting := t.sweeper.waiting }
  report : reportRest t = reportRest s
  orders : orderRest t = orderRest s

theorem OnlyGrants.refl (s : State) : OnlyGrants s s :=
  ⟨rfl, rfl, rfl, fun _ => rfl, fun _ => rfl, rfl, rfl, rfl, rfl, rfl⟩

theorem OnlyGrants.trans (h : OnlyGrants s x) (h' : OnlyGrants x t) : OnlyGrants s t where
  engine := h'.engine.trans h.engine
  port := h'.port.trans h.port
  lane := h'.lane.trans h.lane
  win w := (h'.win w).trans (h.win w)
  ctx c := (h'.ctx c).trans (h.ctx c)
  track := h'.track.trans h.track
  rest := h'.rest.trans h.rest
  sweeper := h'.sweeper.trans (by rw [h.sweeper])
  report := h'.report.trans h.report
  orders := h'.orders.trans h.orders

theorem onlyGrants_build (rs : List Report) : OnlyGrants s (build s rs) :=
  ⟨rfl, rfl, rfl, fun _ => rfl, fun _ => rfl, rfl, rfl, rfl, reportRest_build s rs, rfl⟩

theorem onlyGrants_modWin (f : Window → Window) (hf : ∀ x, (f x).unowed = x.unowed) : OnlyGrants s (modWin s w f) :=
  ⟨rfl, rfl, rfl, fun v => by
    rw [getWin_modWin]
    split
    next h => rw [← h, hf]
    next => rfl, fun _ => rfl, rfl, rfl, rfl, rfl, rfl⟩

theorem onlyGrants_modCtx (f : Context → Context) (hf : ∀ x, (f x).unowed = x.unowed) : OnlyGrants s (modCtx s c f) :=
  ⟨rfl, rfl, rfl, fun _ => rfl, fun k => by
    rw [modCtx, getCtx_setCtx]
    split
    next h => rw [← h, hf]
    next => rfl, rfl, rfl, rfl, rfl, rfl⟩

theorem onlyGrants_grantItem (i : OwedItem) : OnlyGrants s (grantItem s i) := by
  cases i with
  | applied w => exact (onlyGrants_build _).trans (onlyGrants_modWin (fun x => { x with owedApplied := false }) fun _ => rfl)
  | fenced w => exact (onlyGrants_build _).trans (onlyGrants_modWin (fun x => { x with owedFenced := false }) fun _ => rfl)
  | sweeper r =>
    exact (onlyGrants_build [r]).trans ⟨rfl, rfl, rfl, fun _ => rfl, fun _ => rfl, rfl, rfl, rfl, rfl, rfl⟩
  | orderDone r =>
    exact (onlyGrants_build [r]).trans ⟨rfl, rfl, rfl, fun _ => rfl, fun _ => rfl, rfl, rfl, rfl, rfl, rfl⟩
  | transfer c =>
    simp only [grantItem]
    cases owedFinal (getCtx s c) with
    | none => exact onlyGrants_modCtx _ fun _ => rfl
    | some f => exact (onlyGrants_build _).trans (onlyGrants_modCtx _ fun _ => rfl)

theorem onlyGrants_grantRoom (n : Nat) : OnlyGrants s (grantRoom n s) := by
  induction n generalizing s with
  | zero => exact .refl s
  | succ n ih =>
    unfold grantRoom
    split
    · exact .refl s
    · split
      · exact (onlyGrants_grantItem _).trans ih
      · exact .refl s

theorem contextsBound_grantItem (hb : ContextsBound s) (i : OwedItem) : ContextsBound (grantItem s i) := by
  cases i with
  | applied w => exact hb
  | fenced w => exact hb
  | sweeper r => exact hb
  | orderDone r => exact hb
  | transfer c =>
    have hget : ∀ k, getCtx (grantItem s (.transfer c)) k =
        if c = k then { getCtx s c with owed := (getCtx s c).owed - 1 } else getCtx s k := fun k => by
      simp only [grantItem]
      cases owedFinal (getCtx s c) <;> exact getCtx_setCtx _ c k _
    intro k
    rw [hget]
    split
    · obtain ⟨hfree, hfinal, howed⟩ := hb c
      exact ⟨hfree, hfinal, fun h => howed fun h0 => h (by dsimp only; omega)⟩
    · exact hb k

/-- R170: the model's granting is that of `granted`: the fuel is enough, as each item takes a place. -/
theorem grantRoom_granted (n : Nat) (hb : ContextsBound s) (hl : s.report.list.length ≤ 32)
    (hn : 32 < s.report.list.length + n) :
    (grantRoom n s).report = appendRecords s.report (granted (32 - s.report.list.length) (owedGroups s)).1 ∧
    owedGroups (grantRoom n s) = (granted (32 - s.report.list.length) (owedGroups s)).2 := by
  induction n generalizing s with
  | zero => omega
  | succ n ih =>
    unfold grantRoom
    cases hfirst : firstOwed s with
    | none =>
      rw [owedGroups_nil hfirst]
      exact ⟨rfl, rfl⟩
    | some i =>
      obtain ⟨g, hgroups, hsize, hreport⟩ := granted_first hb hfirst
      have hpos := i.size_pos
      dsimp only
      rw [hgroups]
      split
      next hfit =>
        have hlen : (grantItem s i).report.list.length = s.report.list.length + i.size := by
          rw [hreport, ← hsize]
          exact (build_report s g).2.2
        have hfit' : s.report.list.length + i.size ≤ 32 := hfit
        obtain ⟨hr, ho⟩ := ih (contextsBound_grantItem hb i) (by omega) (by omega)
        have hfree : 32 - (s.report.list.length + i.size) = 32 - s.report.list.length - g.length := by omega
        rw [hlen, hfree] at hr ho
        rw [granted, if_pos (by omega), hr, ho, hreport, appendRecords_append]
        exact ⟨rfl, rfl⟩
      next hfit =>
        have hfit' : ¬s.report.list.length + i.size ≤ 32 := hfit
        rw [granted, if_neg (by omega)]
        exact ⟨rfl, hgroups⟩

/-! ### The record's answer (R171) -/

/-- The state after a record is counted, with this record in flight and these in the list. -/
def countedState (s : State) (id : Nat) (f : Option Record) (l : List Record) : State :=
  { s with
    report := { s.report with producer := s.report.producer + 1, inFlight := f, list := l }
    port := { s.port with
      outstanding := s.port.outstanding.filter fun o => decide (o.id ≠ id)
      q3 := s.port.q3 ++ [({ kind := .write, addr := pageAddr s 0x44, count := 4
                             data := leBytes 4 (s.report.producer + 1).toNat, owner := .producerWord } : MemReq)] ++
        f.toList.map fun x =>
          { kind := .write, addr := pageAddr s (0x2000 + 32 * ((s.report.producer + 1).toNat % 256)), count := 32
            data := recordBytes x, owner := .record } } }

theorem countRecord_retire (s : State) (id : Nat) :
    countRecord (retireIssued s id) = countedState s id none s.report.list := by
  simp only [countedState, Option.toList_none, List.map_nil, List.append_nil]
  rfl

theorem mayLeave_counted {id : Nat} (hrun : s.engine.state = .running) (l : List Record) :
    mayLeave (countedState s id none l) = decide ((s.report.producer + 1 - s.report.consumer).toNat < 256) := by
  simp only [mayLeave, isRunning, countedState, hrun]
  rfl

theorem drain_counted_stays {id : Nat} (hrun : s.engine.state = .running)
    (h : s.report.list = [] ∨ 256 ≤ (s.report.producer + 1 - s.report.consumer).toNat) :
    drain (countedState s id none s.report.list) = countedState s id none s.report.list := by
  refine drain_of_quiet fun hm => ?_
  rw [mayLeave_counted hrun] at hm
  exact h.resolve_right (Nat.not_le.mpr (of_decide_eq_true hm))

theorem drain_counted_leaves {id : Nat} {r : Record} {rest : List Record} (hrun : s.engine.state = .running)
    (hl : s.report.list = r :: rest) (h : (s.report.producer + 1 - s.report.consumer).toNat < 256) :
    drain (countedState s id none s.report.list) = grantRoom 33 (countedState s id (some r) rest) := by
  have hlist : (countedState s id none s.report.list).report.list = r :: rest := hl
  have hm : mayLeave (countedState s id none s.report.list) = true := by
    rw [mayLeave_counted hrun]
    exact decide_eq_true h
  have hq : enqueue3 (modReport (countedState s id none s.report.list) fun u => { u with list := rest, inFlight := some r })
      [recordWrite (countedState s id none s.report.list) r] = countedState s id (some r) rest := by
    simp only [countedState, Option.toList_none, List.map_nil, List.append_nil]
    rfl
  unfold drain
  split
  next hnil => rw [hlist] at hnil; cases hnil
  next r' rest' hcons =>
    rw [hlist] at hcons
    cases hcons
    rw [if_pos hm, hq]
    rfl

/-- The close, seen from the state `d` after the record has left and room is granted. -/
structure Closes (b d t : State) : Prop where
  engine : t.engine = { d.engine with attn := attnLevel d }
  orders : t.orders = { d.orders with examDue := d.orders.examDue || (!able b && able t) }
  port : t.port = d.port
  lane : laneSide t = laneSide d
  windows : t.windows = d.windows
  ctxs : t.ctxs = d.ctxs
  track : (t.serial, t.pool, t.builder, t.slots, t.fence) = (d.serial, d.pool, d.builder, d.slots, d.fence)
  rest : (t.time, t.counters, t.choices, t.pending) = (d.time, d.counters, d.choices, d.pending)
  sweeper : t.sweeper = d.sweeper
  report : t.report = d.report

theorem settle_closes (b x : State) : Closes b (drain x) (settle b x) := by
  have hable : ∀ y : State, able (noteAble (able b) y) = able y := fun y => by
    unfold noteAble
    split <;> rfl
  have horders : (settle b x).orders = { (drain x).orders with
      examDue := (drain x).orders.examDue || (!able b && able (settle b x)) } := by
    rw [settle, hable]
    unfold noteAble
    split
    next h => rw [h, Bool.or_true]; rfl
    next h => rw [Bool.eq_false_iff.mpr h, Bool.or_false]; rfl
  exact
    { engine := by simp [settle, evalAttn]
      orders := horders
      port := by simp [settle, evalAttn]
      lane := by simp [settle, evalAttn, laneSide]
      windows := by simp [settle, evalAttn]
      ctxs := by simp [settle, evalAttn]
      track := by simp [settle, evalAttn]
      rest := by simp [settle, evalAttn]
      sweeper := by simp [settle, evalAttn]
      report := by simp [settle, evalAttn] }

theorem execRecordWriteDone_word {id : Nat} {m : MemReq} (hm : findIssued s id = some m) (ho : m.owner = .producerWord) :
    execRecordWriteDone id s = .next (retireIssued s id) := by
  obtain ⟨kind, addr, count, mdata, owner⟩ := m
  cases ho
  simp only [execRecordWriteDone, hm]

theorem execRecordWriteDone_record {id : Nat} {m : MemReq} {r : Record} (hm : findIssued s id = some m)
    (ho : m.owner = .record) (hf : s.report.inFlight = some r) :
    execRecordWriteDone id s = .next (settle s (countedState s id none s.report.list)) := by
  rw [← countRecord_retire]
  obtain ⟨kind, addr, count, mdata, owner⟩ := m
  cases ho
  simp only [execRecordWriteDone, hm]
  rw [if_pos (by rw [hf]; rfl)]

/-- R171: what the answer leaves where a record leaves after it, or none does. -/
theorem drain_counted (hrun : s.engine.state = .running) (id : Nat) :
    ∃ f l, OnlyGrants (countedState s id f l) (drain (countedState s id none s.report.list)) := by
  by_cases hstay : s.report.list = [] ∨ 256 ≤ (s.report.producer + 1 - s.report.consumer).toNat
  · rw [drain_counted_stays hrun hstay]
    exact ⟨_, _, .refl _⟩
  · obtain ⟨hne, hroom⟩ := not_or.mp hstay
    obtain ⟨r, rest, hl⟩ := List.exists_cons_of_ne_nil hne
    rw [drain_counted_leaves hrun hl (Nat.not_le.mp hroom)]
    exact ⟨_, _, onlyGrants_grantRoom _⟩

theorem owedGroups_counted (id : Nat) (f : Option Record) (l : List Record) :
    owedGroups (countedState s id f l) = owedGroups s := owedGroups_congr rfl rfl rfl rfl

/-- What the answer to a record in flight does outside the pending list. -/
structure Recorded (s d : State) (id : Nat) : Prop where
  producer : d.report.producer = s.report.producer + 1
  consumer : d.report.consumer = s.report.consumer
  enable : d.report.attnEnable = s.report.attnEnable
  engine : d.engine = s.engine
  port : d.port = (countedState s id d.report.inFlight []).port
  orders : d.orders = { s.orders with waitingDone := d.orders.waitingDone }
  sweeper : d.sweeper = { s.sweeper with waiting := d.sweeper.waiting }
  win : ∀ w, getWin d w = { getWin s w with
    owedApplied := (getWin d w).owedApplied, owedFenced := (getWin d w).owedFenced }
  ctx : ∀ c, getCtx d c = { getCtx s c with owed := (getCtx d c).owed }
  lane : laneSide d = laneSide s
  track : (d.serial, d.pool, d.builder, d.slots, d.fence) = (s.serial, s.pool, s.builder, s.slots, s.fence)
  rest : (d.time, d.counters, d.choices, d.pending) = (s.time, s.counters, s.choices, s.pending)

theorem OnlyGrants.recorded {d : State} {id : Nat} {f : Option Record} {l : List Record}
    (h : OnlyGrants (countedState s id f l) d) : Recorded s d id where
  producer := (congrArg ReportUnit.producer h.report :)
  consumer := (congrArg ReportUnit.consumer h.report :)
  enable := (congrArg ReportUnit.attnEnable h.report :)
  engine := h.engine
  port := by
    have hf : d.report.inFlight = f := congrArg ReportUnit.inFlight h.report
    rw [hf]
    exact h.port
  orders := congrArg (fun o : OrderUnit => { o with waitingDone := d.orders.waitingDone }) h.orders
  sweeper := h.sweeper
  win w := Window.eq_of_unowed (h.win w)
  ctx c := Context.eq_of_unowed (h.ctx c)
  lane := h.lane
  track := h.track
  rest := h.rest

end Sys2Proof.Machine

open Sys2Proof Sys2Proof.Machine

/-- Settles O41: `grantRoom_granted` ties the model's granting to `granted`, and `OnlyGrants` says what it leaves. -/
theorem recordsAreCounted : Obligations.RecordsAreCounted := by
  unfold Obligations.RecordsAreCounted
  intro id m s hm
  refine ⟨fun ho => execRecordWriteDone_word hm ho, fun r ho hrun hf hb => ?_⟩
  obtain ⟨f, l, hgrants⟩ := drain_counted hrun id
  have hrec := hgrants.recorded
  have hc := settle_closes s (countedState s id none s.report.list)
  have hgroups : owedGroups (settle s (countedState s id none s.report.list)) =
      owedGroups (drain (countedState s id none s.report.list)) :=
    owedGroups_congr hc.windows hc.ctxs (by rw [hc.sweeper]) (by rw [hc.orders])
  refine ⟨_, execRecordWriteDone_record hm ho hf, ?_, ?_, ?_, ?_, fun x rest hl hroom hlen => ?_, fun hstay => ?_, ?_, ?_,
    fun w => ?_, fun c => ?_, ?_, hc.lane.trans hrec.lane, hc.track.trans hrec.track, hc.rest.trans hrec.rest⟩
  · rw [hc.report]; exact hrec.producer
  · rw [hc.report]; exact hrec.consumer
  · rw [hc.report]; exact hrec.enable
  · rw [hc.engine, attnLevel_running (by rw [hrec.engine]; exact hrun), hrec.engine, hrec.producer, hrec.consumer,
      hrec.enable]
  · have hlen' : rest.length + 1 ≤ 32 := by rwa [hl] at hlen
    have hfree : 33 - s.report.list.length = 32 - rest.length := by rw [hl, List.length_cons]; omega
    obtain ⟨hrep, howed⟩ := grantRoom_granted (s := countedState s id (some x) rest) 33 hb
      (show rest.length ≤ 32 by omega) (show 32 < rest.length + 33 by omega)
    rw [owedGroups_counted] at hrep howed
    rw [hgroups, hc.report, drain_counted_leaves hrun hl hroom, hrep, howed, hfree]
    have hpre := appendRecords_prefix (countedState s id (some x) rest).report (granted (32 - rest.length) (owedGroups s)).1
    exact ⟨congrArg ReportUnit.inFlight (appendRecords_rest _ _), List.prefix_iff_eq_take.mp hpre |>.symm,
      appendRecords_map _ _, rfl, appendRecords_seq _ _⟩
  · rw [hgroups, hc.report, drain_counted_stays hrun hstay, owedGroups_counted]
    exact ⟨rfl, rfl, rfl, rfl⟩
  · rw [hc.port, hc.report, hrec.port]
    cases (drain (countedState s id none s.report.list)).report.inFlight <;> rfl
  · rw [hc.orders, hrec.orders]
  · rw [getWin_congr hc.windows]; exact hrec.win w
  · rw [getCtx_congr hc.ctxs]; exact hrec.ctx c
  · rw [hc.sweeper]; exact hrec.sweeper
end
